-- ==== Sys2Proof/Word.lean ====
section
/-! DEFINITION. The word types of the TW2416: what the manual treats as bits, and at what width. -/

namespace Sys2Proof

/-- Eight bits: a byte on a host port, an octet on the trunk (spec/00 section 6.2). -/
abbrev Byte := BitVec 8

/-- Sixteen bits: an address, a mask, a length, an event field or a parameter value as sent (R176). -/
abbrev Word := BitVec 16

/-- A sequence or acknowledgement number, counted modulo 16 (spec/00 section 6.2). -/
abbrev Seq := BitVec 4

/-- A host set: port q is a member when bit q is 1 (spec/00 section 5). -/
abbrev HostSet := BitVec 4

end Sys2Proof
end

