-- ==== Sys2Proof/Syntax.lean ====
section
/-! DEFINITION. The commands and events of the TW2416, one constructor for each row of spec/opcode_table.json, with
its operands as they are sent. -/

namespace Sys2Proof

/-- The four host ports (spec/00 section 5). -/
inductive Port where
  | p0 | p1 | p2 | p3
deriving DecidableEq, Repr

/-- The edges of a chip select: its fall opens a transaction, its rise ends it (R165). -/
inductive Edge where
  | fall | rise
deriving DecidableEq, Repr

/-- A command taken on a port, or an event at the trunk, a timer or the RESET pin. -/
inductive Instr where
  /-- R173: changes nothing. -/
  | nop (p : Port)
  /-- R173: a snapshot of the port's status. -/
  | readStatus (p : Port)
  /-- R172: flags, mask and top event. -/
  | readEvents (p : Port)
  /-- R170: clears the named flags. -/
  | ackEvents (p : Port) (flags : Word)
  /-- R171: replaces the eleven enables. -/
  | setEventMask (p : Port) (mask : Word)
  /-- R142: sets the receive-list marks. -/
  | setMarks (p : Port) (high low : Byte)
  /-- R91: the link record. -/
  | readLink (p : Port)
  /-- R174: resets one port. -/
  | portReset (p : Port)
  /-- R25: claims cells and opens the build slot. -/
  | openFrame (p : Port) (length : Word)
  /-- R26: begins a data phase. -/
  | appendData (p : Port)
  /-- R26: one data-phase byte; R165, R166, R177: at every other place of a transaction, one byte completed with the
  data that was shifted in (log 1). -/
  | appendDataByte (p : Port) (b : Byte)
  /-- R30: commits the frame to the trunk. -/
  | commitTrunk (p : Port) (address : Word) (cls tag options : Byte)
  /-- R34: delivers the frame on the board. -/
  | commitLocal (p : Port) (targets cls tag options : Byte)
  /-- R28: ends the frame in the slot. -/
  | discardFrame (p : Port)
  /-- R38: takes back a waiting frame. -/
  | cancel (p : Port) (tag : Byte)
  /-- R139: describes the head receive record. -/
  | peekRecord (p : Port)
  /-- R140: fixes the record and offset to read. -/
  | readFrame (p : Port) (offset : Word)
  /-- R140: one data-phase byte; R177: behind a taken command, one byte whose data in is ignored. -/
  | readFrameByte (p : Port)
  /-- R141: removes the head receive record. -/
  | releaseRecord (p : Port)
  /-- R147: takes the head completion record. -/
  | takeCompletion (p : Port)
  /-- R152: asks for the lease. -/
  | leaseAcquire (p : Port) (options : Byte)
  /-- R153: restarts the lease timer. -/
  | leaseRenew (p : Port)
  /-- R155: gives the lease up. -/
  | leaseRelease (p : Port)
  /-- R156: leaves the waiting list. -/
  | leaseWithdraw (p : Port)
  /-- R17: sets a port's floor and ceiling. -/
  | setQuota (p : Port) (port floor : Byte) (ceiling : Word)
  /-- R161: writes a device parameter. -/
  | setParameter (p : Port) (number : Byte) (value : Word)
  /-- R163: reads a device parameter. -/
  | readParameter (p : Port) (number : Byte)
  /-- R127: writes a shadow entry. -/
  | tableWrite (p : Port) (index : Byte) (address mask : Word) (hosts flags : Byte)
  /-- R128: clears a shadow entry. -/
  | tableClear (p : Port) (index : Byte)
  /-- R129: reads an entry of either table. -/
  | tableRead (p : Port) (selector index : Byte)
  /-- R130: copies the shadow to the active table. -/
  | tableCommit (p : Port)
  /-- R131: copies the active to the shadow table. -/
  | tableRevert (p : Port)
  /-- R79: turns the trunk on. -/
  | trunkOn (p : Port)
  /-- R80: turns the trunk off. -/
  | trunkOff (p : Port)
  /-- R168: a command byte that names no command. -/
  | illegal (p : Port) (code : Byte)
  /-- R167, R168: chip select rises. The table has no row for its fall, which opens the transaction (R165), so this row
  carries both edges (log 3). -/
  | transactionEnd (p : Port) (edge : Edge)
  /-- R175: RESET is asserted. -/
  | deviceReset
  /-- R58: the hunting receiver finds a marker. -/
  | rxMarkerFound
  /-- R61: one line octet is received. -/
  | rxFrameOctet (octet : Byte)
  /-- R72, R97, R98: the closing marker of a DATA frame. -/
  | dataFrameReceived
  /-- R96: the closing marker of an ACK frame. -/
  | ackFrameReceived
  /-- R106: the closing marker of a REJECT frame. -/
  | rejectFrameReceived
  /-- R108: the closing marker of a HALT frame. -/
  | haltFrameReceived
  /-- R110: the closing marker of a GO frame. -/
  | goFrameReceived
  /-- R81, R82, R85: the closing marker of a HELLO frame. -/
  | helloFrameReceived
  /-- R45 to R48: an arbitration. -/
  | arbitration
  /-- R105: the next frame of a round is started. -/
  | roundDataSend
  /-- R100: an owed REJECT is started. -/
  | rejectSend
  /-- R102: an owed HALT is started. -/
  | haltSend
  /-- R102: an owed GO is started. -/
  | goSend
  /-- R99: an owed ACK is started. -/
  | ackSend
  /-- R76: a due HELLO is started. -/
  | helloSend
  /-- R65: the last check octet has been sent. -/
  | transmissionEnd
  /-- R76. -/
  | helloTimerExpiry
  /-- R77. -/
  | intervalTimerExpiry
  /-- R78. -/
  | holdOffTimerExpiry
  /-- R53. -/
  | flushTimerExpiry
  /-- R104. -/
  | ackTimerExpiry
  /-- R99. -/
  | ackDelayTimerExpiry
  /-- R109. -/
  | haltTimerExpiry
  /-- R154. -/
  | leaseTimerExpiry
  /-- R73: more than 2 ms without a clock on RCK. -/
  | silentLine
  /-- R73: the clock on RCK returns. -/
  | rckClockReturn
  /-- R175: RESET is released. -/
  | resetRelease
  /-- R67: the closing marker of a frame of no known type. -/
  | unknownTypeFrameEnd
deriving DecidableEq, Repr

end Sys2Proof
end

