-- ==== Sys2Proof/Decode.lean ====
section
/-! DEFINITION. The command bytes of the host ports (spec/11 section 11.2) and the host's question about table words.
The rows of spec/opcode_table.json give no bits, so no word spells a row (log 16). -/

namespace Sys2Proof

/-- The command that a word spells by the table's bits. No row of the table gives bits, so there is none (log 16). -/
def decodeTableWord (_nbits _w : Nat) : Option Instr := none

/-- The number of argument bytes of the command a command byte names, or none where it names no command
(spec/11 section 11.2). -/
def commandArgs (code : Byte) : Option Nat :=
  match code.toNat with
  | 0x00 | 0x01 | 0x02 | 0x06 | 0x07 => some 0
  | 0x03 | 0x04 | 0x05 => some 2
  | 0x10 => some 2
  | 0x11 | 0x14 => some 0
  | 0x12 => some 5
  | 0x13 => some 4
  | 0x15 => some 1
  | 0x20 | 0x22 | 0x23 => some 0
  | 0x21 => some 2
  | 0x30 => some 1
  | 0x31 | 0x32 | 0x33 => some 0
  | 0x40 => some 4
  | 0x41 => some 3
  | 0x42 | 0x44 => some 1
  | 0x43 => some 7
  | 0x45 => some 2
  | 0x46 | 0x47 | 0x48 | 0x49 => some 0
  | _ => none

/-- The command byte of a host command (spec/11 section 11.2); none for the rows that are no command of a host. -/
def commandByte : Instr → Option Byte
  | .nop _ => some 0x00#8
  | .readStatus _ => some 0x01#8
  | .readEvents _ => some 0x02#8
  | .ackEvents _ _ => some 0x03#8
  | .setEventMask _ _ => some 0x04#8
  | .setMarks _ _ _ => some 0x05#8
  | .readLink _ => some 0x06#8
  | .portReset _ => some 0x07#8
  | .openFrame _ _ => some 0x10#8
  | .appendData _ => some 0x11#8
  | .commitTrunk _ _ _ _ _ => some 0x12#8
  | .commitLocal _ _ _ _ _ => some 0x13#8
  | .discardFrame _ => some 0x14#8
  | .cancel _ _ => some 0x15#8
  | .peekRecord _ => some 0x20#8
  | .readFrame _ _ => some 0x21#8
  | .releaseRecord _ => some 0x22#8
  | .takeCompletion _ => some 0x23#8
  | .leaseAcquire _ _ => some 0x30#8
  | .leaseRenew _ => some 0x31#8
  | .leaseRelease _ => some 0x32#8
  | .leaseWithdraw _ => some 0x33#8
  | .setQuota _ _ _ _ => some 0x40#8
  | .setParameter _ _ _ => some 0x41#8
  | .readParameter _ _ => some 0x42#8
  | .tableWrite _ _ _ _ _ _ => some 0x43#8
  | .tableClear _ _ => some 0x44#8
  | .tableRead _ _ _ => some 0x45#8
  | .tableCommit _ => some 0x46#8
  | .tableRevert _ => some 0x47#8
  | .trunkOn _ => some 0x48#8
  | .trunkOff _ => some 0x49#8
  | .appendDataByte _ _ => none
  | .readFrameByte _ => none
  | .illegal _ _ => none
  | .transactionEnd _ _ => none
  | .deviceReset => none
  | .rxMarkerFound => none
  | .rxFrameOctet _ => none
  | .dataFrameReceived => none
  | .ackFrameReceived => none
  | .rejectFrameReceived => none
  | .haltFrameReceived => none
  | .goFrameReceived => none
  | .helloFrameReceived => none
  | .arbitration => none
  | .roundDataSend => none
  | .rejectSend => none
  | .haltSend => none
  | .goSend => none
  | .ackSend => none
  | .helloSend => none
  | .transmissionEnd => none
  | .helloTimerExpiry => none
  | .intervalTimerExpiry => none
  | .holdOffTimerExpiry => none
  | .flushTimerExpiry => none
  | .ackTimerExpiry => none
  | .ackDelayTimerExpiry => none
  | .haltTimerExpiry => none
  | .leaseTimerExpiry => none
  | .silentLine => none
  | .rckClockReturn => none
  | .resetRelease => none
  | .unknownTypeFrameEnd => none

/-- The number of reply bytes of the command a command byte names (spec/11 section 11.2); a data phase is no reply. -/
def replyBytes (code : Byte) : Nat :=
  match code.toNat with
  | 0x01 => 20
  | 0x02 => 5
  | 0x06 => 9
  | 0x20 | 0x45 => 8
  | 0x23 => 4
  | 0x30 | 0x42 => 2
  | _ => 0

/-- The port a row acts on, for the rows of the host ports; none for the trunk, the timers and the pins. -/
def Instr.port? : Instr → Option Port
  | .nop p => some p
  | .readStatus p => some p
  | .readEvents p => some p
  | .ackEvents p _ => some p
  | .setEventMask p _ => some p
  | .setMarks p _ _ => some p
  | .readLink p => some p
  | .portReset p => some p
  | .openFrame p _ => some p
  | .appendData p => some p
  | .appendDataByte p _ => some p
  | .commitTrunk p _ _ _ _ => some p
  | .commitLocal p _ _ _ _ => some p
  | .discardFrame p => some p
  | .cancel p _ => some p
  | .peekRecord p => some p
  | .readFrame p _ => some p
  | .readFrameByte p => some p
  | .releaseRecord p => some p
  | .takeCompletion p => some p
  | .leaseAcquire p _ => some p
  | .leaseRenew p => some p
  | .leaseRelease p => some p
  | .leaseWithdraw p => some p
  | .setQuota p _ _ _ => some p
  | .setParameter p _ _ => some p
  | .readParameter p _ => some p
  | .tableWrite p _ _ _ _ _ => some p
  | .tableClear p _ => some p
  | .tableRead p _ _ => some p
  | .tableCommit p => some p
  | .tableRevert p => some p
  | .trunkOn p => some p
  | .trunkOff p => some p
  | .illegal p _ => some p
  | .transactionEnd p _ => some p
  | .deviceReset => none
  | .rxMarkerFound => none
  | .rxFrameOctet _ => none
  | .dataFrameReceived => none
  | .ackFrameReceived => none
  | .rejectFrameReceived => none
  | .haltFrameReceived => none
  | .goFrameReceived => none
  | .helloFrameReceived => none
  | .arbitration => none
  | .roundDataSend => none
  | .rejectSend => none
  | .haltSend => none
  | .goSend => none
  | .ackSend => none
  | .helloSend => none
  | .transmissionEnd => none
  | .helloTimerExpiry => none
  | .intervalTimerExpiry => none
  | .holdOffTimerExpiry => none
  | .flushTimerExpiry => none
  | .ackTimerExpiry => none
  | .ackDelayTimerExpiry => none
  | .haltTimerExpiry => none
  | .leaseTimerExpiry => none
  | .silentLine => none
  | .rckClockReturn => none
  | .resetRelease => none
  | .unknownTypeFrameEnd => none

/-- The codes of the management commands: those that need the lease (R159). -/
def isManagementCode (code : Byte) : Bool :=
  [0x40#8, 0x41#8, 0x43#8, 0x44#8, 0x46#8, 0x47#8, 0x48#8, 0x49#8].contains code

/-- Whether a row is a management command (R159). -/
def Instr.isManagement (i : Instr) : Bool := (commandByte i).any isManagementCode

end Sys2Proof
end

