-- ==== Sys2Proof/Config.lean ====
section
/-! DEFINITION. What the part fixes: sizes, limits and the two special line octets, and the two free values. -/

namespace Sys2Proof.Config

/-- Cells in the pool (R1). -/
def poolCells : Nat := 512

/-- Bytes in a cell (R1). -/
def cellBytes : Nat := 64

/-- Longest payload of a frame (R2). -/
def maxPayload : Nat := 512

/-- Places in a receive list (R136). -/
def rxPlaces : Nat := 32

/-- Completion records plus reserved slots of a port (R29). -/
def completionPlaces : Nat := 16

/-- WAITING and IN WINDOW frames of a port (R41). -/
def transmitLimit : Nat := 16

/-- The frame octet that makes a frame over-length (R67). -/
def overLength : Nat := 519

/-- Entries of an address table (R117). -/
def tableEntries : Nat := 32

/-- Where the statistics counters stay (spec/00 section 6.2). -/
def counterMax : Nat := 65535

/-- Largest floor, largest ceiling and largest sum of floors (R5, R17). -/
def maxFloor : Nat := 128
def maxCeiling : Nat := 512
def maxFloorSum : Nat := 256

/-- The marker octet (R58, R60). -/
def marker : Byte := 0xA9#8

/-- The escape octet (R60). -/
def escape : Byte := 0xA8#8

/-- What a transparent octet is inverted by (R60). -/
def escapeFlip : Byte := 0x40#8

/-- The register of a frame that passes the check (R62). -/
def checkResidue : Word := 0x1D0F#16

/-- DESIGN CHOICE (log 6). FREE VALUE: how many line octets of an aborted transmission TCK had taken, before reduction
to the frame's length. No command moves TCK octet by octet, so nothing constrains it. -/
opaque lineOctetsSent : Nat → Nat

/-- DESIGN CHOICE (log 7). FREE VALUE: which of the free cells the pool takes for a grant, before reduction to their
number. The pool chooses and no port sees the choice (R1), so nothing constrains it. -/
opaque cellChoice : Nat → Nat

end Sys2Proof.Config
end

