-- ==== Sys2Proof/Machine/State.lean ====
section
/-! DEFINITION. The state of the TW2416: every piece of state the chapters name, as plain data, and its value after a
device reset. -/

namespace Sys2Proof.Machine

/-- No command of the part faults: a refused command has a result code (spec/11 section 11.6), and every event has an
effect or none. There is nothing to raise, which is neither safe nor unsafe. -/
inductive Fault where
deriving DecidableEq, Repr

/-- The only refusal is exec's own, for a row without a meaning. -/
inductive Refusal where
  /-- Raised by exec alone, for a command that has no meaning yet; safe. No arm raises it in this model. -/
  | notModelled (mnemonic : String)
deriving DecidableEq, Repr

/-- One thing for each of the four ports. -/
structure PerPort (α : Type) where
  p0 : α
  p1 : α
  p2 : α
  p3 : α
deriving DecidableEq, Repr

/-- Result codes (spec/11 section 11.6). -/
inductive Result where
  | ok | queued | held | short | empty
  | illegal | truncated | badArg | notHolder | quotaSum
  | noFrame | slotBusy | notFull | overfill | poolShort | overCeiling | queueFull | noSlot | notFound | inFlight
  | linkOff | linkDown
deriving DecidableEq, Repr

/-- The level POOL_LOW was last judged at (R15). -/
inductive PoolLevel where
  | atOrAbove | below
deriving DecidableEq, Repr

/-- The part of the cell pool that belongs to no port (spec/01): the two counts, the level of POOL_LOW, and the cells
themselves, by number: those that are free and those of the frame in reception, in payload order (R1, R8). -/
structure Pool where
  free : Nat
  inbound : Nat
  level : PoolLevel
  freeCells : List Nat
  inboundCells : List Nat
deriving DecidableEq, Repr

/-- Where a frame comes from (R21). -/
inductive Origin where
  | port (p : Port)
  | trunk
deriving DecidableEq, Repr

/-- The states of a frame record (R22). -/
inductive FrameState where
  | building | waiting | inWindow | delivered
deriving DecidableEq, Repr

/-- A frame record (R21). `cells` names its cells in payload order; what they hold is `payload`, the bytes written or
received so far: while BUILDING their number is the fill (log 7). A field the frame does not have yet is none. -/
structure Frame where
  cells : List Nat
  length : Nat
  payload : List Byte
  origin : Origin
  state : FrameState
  cls : Option (Fin 4)
  address : Option Word
  tag : Option Byte
  notify : Option Bool
  refs : Option Nat
  payer : Option Port
deriving DecidableEq, Repr

/-- The source of a receive record or a refusal (R137, R143). -/
inductive Source where
  | fromTrunk (address : Word)
  | fromPort (sender : Port)
deriving DecidableEq, Repr

/-- A receive record (R137). `frame` is the number of its frame in the frame store (log 8). -/
structure RxRecord where
  frame : Nat
  length : Nat
  source : Source
  cls : Fin 4
  first : Option Nat
  delivered : HostSet
deriving DecidableEq, Repr

/-- Whether the high or the low mark was met last (R138, R141). -/
inductive MarkState where
  | below | above
deriving DecidableEq, Repr

/-- Why a delivery refused a port (R124). -/
inductive RefusalReason where
  | room | ceiling
deriving DecidableEq, Repr

/-- The last-refusal record (R143). -/
structure LastRefusal where
  reason : RefusalReason
  source : Source
deriving DecidableEq, Repr

/-- A port's receive list (spec/08). -/
structure RxList where
  records : List RxRecord
  high : Nat
  low : Nat
  markState : MarkState
  lastRefusal : Option LastRefusal
deriving DecidableEq, Repr

/-- Outcomes of committed frames (R145). -/
inductive CplOutcome where
  | acked | linkDown | linkOff | delivered | noTarget
deriving DecidableEq, Repr

/-- A completion record (R145): the delivered and the refused set are present for local frames. -/
structure CplRecord where
  tag : Byte
  outcome : CplOutcome
  sets : Option (HostSet × HostSet)
deriving DecidableEq, Repr

/-- A port's completion list (spec/08). -/
structure CplList where
  records : List CplRecord
  reserved : Nat
deriving DecidableEq, Repr

/-- A port's event unit (spec/10): flags and enables at the bit positions of section 11.5, and the interrupt line. -/
structure EventUnit where
  flags : BitVec 11
  mask : BitVec 11
  irq : Bool
deriving DecidableEq, Repr

/-- The data phase a taken command has opened (R166). -/
inductive DataPhase where
  | none
  | append
  /-- READ FRAME: the payload of the record read, if there is one, and the position of the next byte. -/
  | read (payload : Option (List Byte)) (next : Nat)
deriving DecidableEq, Repr

/-- A port's transaction (R165). -/
inductive Txn where
  /-- Chip select is high. -/
  | closed
  /-- Chip select is low and no command is taken: the bytes completed so far, the command byte first (R166, R168). -/
  | selected (got : List Byte)
  /-- The command is taken: its result so far and its data phase (R167). -/
  | opened (result : Result) (phase : DataPhase)
  /-- Ignored until chip select rises: it fell while RESET was asserted, or a device reset has ended the transaction
  (R165, R168, R175). -/
  | ignored
deriving DecidableEq, Repr

/-- What each port has. `out` holds the bytes shifted out in the latest transaction, `reply` those that follow, before
0x00 (R166, R177, log 18). -/
structure PortState where
  holdings : Nat
  floor : Nat
  ceiling : Nat
  slot : Option Frame
  queue : List Frame
  deferred : Bool
  rx : RxList
  cpl : CplList
  events : EventUnit
  prevResult : Result
  txn : Txn
  out : List Byte
  reply : List Byte
deriving DecidableEq, Repr

/-- The six frame types (R63). -/
inductive FrameType where
  | data | ack | reject | halt | go | hello
deriving DecidableEq, Repr

/-- A transmission in progress (R65): its frame octets as fixed at its start, check octets included, before they are
made transparent. `held` is the payer and the record of a DATA frame that ended while on the line (R4). -/
structure Transmission where
  kind : FrameType
  octets : List Byte
  held : Option (Port × Frame)
deriving DecidableEq, Repr

/-- Transmitter state (R64). -/
inductive TxState where
  | idle
  | sending (t : Transmission)
deriving DecidableEq, Repr

/-- Receiver state (R58). -/
inductive RxState where
  | ignoring | hunting | between | receiving | discarding
deriving DecidableEq, Repr

/-- Admission of the DATA frame in reception (R70, R72). -/
inductive Admission where
  | notAdmitted | admitted | abandoned
deriving DecidableEq, Repr

/-- Silent-line watch (R73). -/
inductive Watch where
  | stopped | running | reported
deriving DecidableEq, Repr

/-- The framer (spec/04). `cut` is the model's own: a silent line has just cut off the frame in reception, and no clock
has been seen since (log 27). -/
structure Framer where
  tx : TxState
  closing : List Byte
  rxState : RxState
  escPending : Bool
  badEscape : Bool
  count : Nat
  header : List Byte
  hold : List Byte
  crc : Word
  admission : Admission
  stored : List Byte
  invalidCount : Nat
  watch : Watch
  cut : Bool
deriving DecidableEq, Repr

/-- A timer: stopped, or running with the period it was started with, in milliseconds (log 4). -/
inductive Timer where
  | stopped
  | running (period : Nat)
deriving DecidableEq, Repr

/-- Link states (R75). -/
inductive LinkState where
  | off | seeking | confirming | up | lost
deriving DecidableEq, Repr

/-- Loss causes (R85). -/
inductive LossCause where
  | none | silent | helloTimeout | peerRestart | looped | retryLimit | haltTimeout
deriving DecidableEq, Repr

/-- The link state machine (spec/05) with the flush timer (R52). -/
structure Link where
  state : LinkState
  confCount : Nat
  lossCount : Nat
  heard : Bool
  lastCause : LossCause
  peer : Option Byte
  helloTimer : Timer
  helloDue : Bool
  intervalTimer : Timer
  holdOffTimer : Timer
  flushTimer : Timer
  flushed : Bool
deriving DecidableEq, Repr

/-- A window entry (R93); its tag and notify option are its frame's. -/
structure WindowEntry where
  seq : Seq
  frame : Frame
  owner : Port
  retry : Nat
  orphan : Bool
  onLine : Bool
deriving DecidableEq, Repr

/-- The ack-delay timer (R99). -/
inductive DelayTimer where
  | stopped
  | running (period : Nat)
  | expired
deriving DecidableEq, Repr

/-- The flow frame owed (R111, R113). -/
inductive FlowFrame where
  | none | halt | go
deriving DecidableEq, Repr

/-- A go-back round (R105). -/
structure Round where
  origin : Seq
  next : Seq
deriving DecidableEq, Repr

/-- The transfer engine (spec/06). -/
structure Engine where
  window : List WindowEntry
  vs : Seq
  vr : Seq
  ackOwed : Bool
  ackDelay : DelayTimer
  rejectOwed : Bool
  rejectOutstanding : Bool
  flowOwed : FlowFrame
  peerHalted : Bool
  haltingPeer : Bool
  round : Option Round
  ackTimer : Timer
  haltTimer : Timer
  retransCount : Nat
deriving DecidableEq, Repr

/-- An address table entry without its counter and mark (R117). -/
structure TableEntry where
  inUse : Bool
  address : Word
  mask : Word
  hosts : HostSet
  stop : Bool
deriving DecidableEq, Repr

/-- An entry of the active table (R117). -/
structure ActiveEntry where
  entry : TableEntry
  hits : Nat
deriving DecidableEq, Repr

/-- An entry of the shadow table (R118). -/
structure ShadowEntry where
  entry : TableEntry
  written : Bool
deriving DecidableEq, Repr

/-- The inbound classifier (spec/07). -/
structure Classifier where
  active : List ActiveEntry
  shadow : List ShadowEntry
  dirty : Bool
  unclaimed : Nat
deriving DecidableEq, Repr

/-- The lease (R150). -/
structure Lease where
  holder : Option Port
  timer : Timer
  waiting : List Port
deriving DecidableEq, Repr

/-- The device parameters P0 to P14 (R160). -/
structure Params where
  station : Nat
  tHello : Nat
  nUp : Nat
  nLoss : Nat
  tHold : Nat
  w : Nat
  tAck : Nat
  nRetry : Nat
  tDly : Nat
  tHalt : Nat
  tFlush : Nat
  resume : Nat
  defaultHosts : Nat
  tLease : Nat
  poolLow : Nat
deriving DecidableEq, Repr

/-- The whole part, with the queue of commands that wait. `freeTick` is the model's own: it numbers the free values
(log 6, log 7). -/
structure State where
  pool : Pool
  ports : PerPort PortState
  frames : List (Nat × Frame)
  pointer : Port
  framer : Framer
  link : Link
  engine : Engine
  classifier : Classifier
  lease : Lease
  params : Params
  resetAsserted : Bool
  freeTick : Nat
  pending : List Instr
deriving DecidableEq, Repr

/-- A port after device reset (R19, R24, R40, R44, R149, R167, R171). -/
def PortState.reset : PortState :=
  { holdings := 0, floor := 16, ceiling := 192
    slot := none, queue := [], deferred := false
    rx := { records := [], high := 24, low := 8, markState := .below, lastRefusal := none }
    cpl := { records := [], reserved := 0 }
    events := { flags := 0, mask := 0, irq := false }
    prevResult := .ok, txn := .closed, out := [], reply := [] }

/-- The framer after device reset (spec/04, table at its head; the other registers: log 14). -/
def Framer.reset : Framer :=
  { tx := .idle, closing := [], rxState := .ignoring, escPending := false, badEscape := false, count := 0
    header := [], hold := [], crc := 0xFFFF#16, admission := .notAdmitted, stored := [], invalidCount := 0
    watch := .stopped, cut := false }

/-- The link state machine after device reset (spec/05, table at its head; R52, R54). -/
def Link.reset : Link :=
  { state := .off, confCount := 0, lossCount := 0, heard := false, lastCause := .none, peer := none
    helloTimer := .stopped, helloDue := false, intervalTimer := .stopped, holdOffTimer := .stopped
    flushTimer := .stopped, flushed := false }

/-- The transfer engine after device reset (spec/06, table at its head). -/
def Engine.reset : Engine :=
  { window := [], vs := 0, vr := 0, ackOwed := false, ackDelay := .stopped, rejectOwed := false
    rejectOutstanding := false, flowOwed := .none, peerHalted := false, haltingPeer := false, round := none
    ackTimer := .stopped, haltTimer := .stopped, retransCount := 0 }

/-- An entry that is not in use (R117). -/
def TableEntry.unused : TableEntry :=
  { inUse := false, address := 0, mask := 0, hosts := 0, stop := false }

/-- The classifier after device reset (R135). -/
def Classifier.reset : Classifier :=
  { active := List.replicate Config.tableEntries { entry := .unused, hits := 0 }
    shadow := List.replicate Config.tableEntries { entry := .unused, written := false }
    dirty := false, unclaimed := 0 }

/-- The parameters after device reset (R160). -/
def Params.reset : Params :=
  { station := 0, tHello := 10, nUp := 3, nLoss := 4, tHold := 50, w := 4, tAck := 20, nRetry := 3, tDly := 2
    tHalt := 2000, tFlush := 1000, resume := 24, defaultHosts := 0, tLease := 1000, poolLow := 32 }

/-- The part once RESET has been released (R175), with no command waiting. -/
def State.reset : State :=
  { pool :=
      { free := Config.poolCells, inbound := 0, level := .atOrAbove, freeCells := List.range Config.poolCells
        inboundCells := [] }
    ports := { p0 := .reset, p1 := .reset, p2 := .reset, p3 := .reset }
    frames := [], pointer := .p3, framer := .reset, link := .reset, engine := .reset, classifier := .reset
    lease := { holder := none, timer := .stopped, waiting := [] }
    params := .reset, resetAsserted := false, freeTick := 0, pending := [] }

end Sys2Proof.Machine
end

