-- ==== Sys2Proof/Machine/Operands.lean ====
section
/-! DEFINITION. Operand and reply forms: ports and host sets, option bits, byte order, and the codes of spec/11. -/

namespace Sys2Proof

/-- A port's number. -/
def Port.toNat : Port → Nat
  | .p0 => 0
  | .p1 => 1
  | .p2 => 2
  | .p3 => 3

/-- The port a number names; port numbers stop at P3 (spec/00 section 6.1). -/
def Port.ofNat? : Nat → Option Port
  | 0 => some .p0
  | 1 => some .p1
  | 2 => some .p2
  | 3 => some .p3
  | _ => none

/-- The ports in number order. -/
def Port.all : List Port := [.p0, .p1, .p2, .p3]

/-- The four ports in the order of search that starts after p and goes round from P3 to P0 (R46). -/
def Port.searchFrom : Port → List Port
  | .p0 => [.p1, .p2, .p3, .p0]
  | .p1 => [.p2, .p3, .p0, .p1]
  | .p2 => [.p3, .p0, .p1, .p2]
  | .p3 => [.p0, .p1, .p2, .p3]

/-- Port q is a member of a host set when bit q is 1 (spec/00 section 5). -/
def HostSet.has (h : HostSet) (q : Port) : Bool := h.getLsbD q.toNat

/-- The host set of the ports that satisfy a test. -/
def HostSet.ofPorts (f : Port → Bool) : HostSet :=
  BitVec.ofBool (f .p3) ++ BitVec.ofBool (f .p2) ++ BitVec.ofBool (f .p1) ++ BitVec.ofBool (f .p0)

/-- The members of a host set in number order. -/
def HostSet.ports (h : HostSet) : List Port := Port.all.filter h.has

namespace Machine

namespace PerPort

/-- The thing of port p. -/
def get {α : Type} (v : PerPort α) : Port → α
  | .p0 => v.p0
  | .p1 => v.p1
  | .p2 => v.p2
  | .p3 => v.p3

/-- Replaces the thing of port p. -/
def set {α : Type} (v : PerPort α) (p : Port) (a : α) : PerPort α :=
  match p with
  | .p0 => { v with p0 := a }
  | .p1 => { v with p1 := a }
  | .p2 => { v with p2 := a }
  | .p3 => { v with p3 := a }

/-- Changes the thing of every port. -/
def map {α : Type} (v : PerPort α) (f : α → α) : PerPort α :=
  { p0 := f v.p0, p1 := f v.p1, p2 := f v.p2, p3 := f v.p3 }

end PerPort

/-- A 16-bit value, most significant octet first (R176). -/
def octets16 (w : Word) : List Byte := [w.extractLsb' 8 8, w.extractLsb' 0 8]

/-- The 16-bit value that two octets carry, the most significant first (R176). -/
def wordOf (high low : Byte) : Word := high ++ low

/-- A count sent in one byte. -/
def octet (n : Nat) : Byte := BitVec.ofNat 8 n

/-- A count sent in 16 bits. -/
def count16 (n : Nat) : List Byte := octets16 (BitVec.ofNat 16 n)

/-- The notify option of a commit: bit 0 of the options byte, the other bits ignored (R176, section 11.3). -/
def notifyOption (options : Byte) : Bool := options.getLsbD 0

/-- The wait option of LEASE ACQUIRE: bit 0 (section 11.3). -/
def waitOption (options : Byte) : Bool := options.getLsbD 0

/-- The stop flag of TABLE WRITE: bit 0 of the flags byte (section 11.3). -/
def stopFlag (flags : Byte) : Bool := flags.getLsbD 0

/-- The selector of TABLE READ: bit 0, 1 for the shadow table (section 11.3). -/
def selectsShadow (selector : Byte) : Bool := selector.getLsbD 0

/-- A host set in the low four bits of its byte, the upper four ignored (R34, R127). -/
def hostSetArg (b : Byte) : HostSet := b.extractLsb' 0 4

/-- The eleven event bits of an event field, bits 15:11 ignored (section 11.3). -/
def eventFieldArg (w : Word) : BitVec 11 := w.extractLsb' 0 11

/-- A class byte that passes its check, 0 to 3; it has no reserved bits (R176). -/
def classArg (b : Byte) : Option (Fin 4) :=
  if b.toNat < 4 then some (Fin.ofNat 4 b.toNat) else none

/-- Result codes (section 11.6). -/
def Result.code : Result → Byte
  | .ok => 0x00#8
  | .queued => 0x01#8
  | .held => 0x02#8
  | .short => 0x03#8
  | .empty => 0x04#8
  | .illegal => 0x10#8
  | .truncated => 0x11#8
  | .badArg => 0x12#8
  | .notHolder => 0x13#8
  | .quotaSum => 0x14#8
  | .noFrame => 0x20#8
  | .slotBusy => 0x21#8
  | .notFull => 0x22#8
  | .overfill => 0x23#8
  | .poolShort => 0x24#8
  | .overCeiling => 0x25#8
  | .queueFull => 0x26#8
  | .noSlot => 0x27#8
  | .notFound => 0x28#8
  | .inFlight => 0x29#8
  | .linkOff => 0x2A#8
  | .linkDown => 0x2B#8

/-- Link state codes (section 11.4). -/
def LinkState.code : LinkState → Byte
  | .off => 0#8
  | .seeking => 1#8
  | .confirming => 2#8
  | .up => 3#8
  | .lost => 4#8

/-- Loss cause codes (section 11.4). -/
def LossCause.code : LossCause → Byte
  | .none => 0#8
  | .silent => 1#8
  | .helloTimeout => 2#8
  | .peerRestart => 3#8
  | .looped => 4#8
  | .retryLimit => 5#8
  | .haltTimeout => 6#8

/-- Completion outcome codes (section 11.4). -/
def CplOutcome.code : CplOutcome → Byte
  | .acked => 1#8
  | .linkDown => 2#8
  | .linkOff => 3#8
  | .delivered => 4#8
  | .noTarget => 5#8

/-- The source bit of a record or refusal: 0 TRUNK, 1 LOCAL (section 11.4). -/
def Source.isLocal : Source → Bool
  | .fromTrunk _ => false
  | .fromPort _ => true

/-- The 16 bits that hold the address for TRUNK, or the sender in the low octet for LOCAL (section 11.4). -/
def Source.word : Source → Word
  | .fromTrunk a => a
  | .fromPort p => BitVec.ofNat 16 p.toNat

/-- A flag at a bit position of a reply byte. -/
def bitAt (i : Nat) (b : Bool) : Byte := if b then (1#8 <<< i) else 0#8

/-- The last-refusal field of READ STATUS (section 11.4). -/
def lastRefusalField : Option LastRefusal → List Byte
  | none => [0#8, 0#8, 0#8]
  | some r =>
    (bitAt 7 true ||| bitAt 6 (r.reason == .ceiling) ||| bitAt 4 r.source.isLocal) :: octets16 r.source.word

/-- The lease byte of READ STATUS: bit 7 held, bits 1:0 holder (section 11.4). -/
def leaseField : Option Port → Byte
  | none => 0#8
  | some p => bitAt 7 true ||| octet p.toNat

/-- The first-matched byte of PEEK RECORD: the index, or 0xFF for no entry (section 11.4). -/
def firstMatchedField : Option Nat → Byte
  | none => 0xFF#8
  | some i => octet i

/-- The reply of PEEK RECORD (section 11.4). -/
def peekReply (r : RxRecord) : List Byte :=
  count16 r.length ++ [bitAt 0 r.source.isLocal] ++ octets16 r.source.word ++
    [octet r.cls.val, firstMatchedField r.first, r.delivered.zeroExtend 8]

/-- The reply of TAKE COMPLETION; absent sets read as 0 (R145, section 11.4). -/
def completionReply (r : CplRecord) : List Byte :=
  match r.sets with
  | none => [r.tag, r.outcome.code, 0#8, 0#8]
  | some (d, f) => [r.tag, r.outcome.code, d.zeroExtend 8, f.zeroExtend 8]

/-- The reply of TABLE READ (section 11.4). -/
def tableReply (e : TableEntry) (hits : Nat) (written dirty : Bool) : List Byte :=
  [bitAt 7 e.inUse ||| bitAt 6 written ||| bitAt 5 dirty ||| bitAt 0 e.stop] ++ octets16 e.address ++
    octets16 e.mask ++ [e.hosts.zeroExtend 8] ++ count16 hits

/-- A reply of n bytes that carries nothing (R177). -/
def zeros (n : Nat) : List Byte := List.replicate n 0#8

/-- A saturating statistics counter rises by one (spec/00 section 6.2). -/
def saturatingSucc (n : Nat) : Nat := if n < Config.counterMax then n + 1 else n

/-- The range of a parameter number, lowest and highest value (R160); none for a number above 14. -/
def paramRange : Nat → Option (Nat × Nat)
  | 0 => some (0, 255)
  | 1 => some (1, 100)
  | 2 => some (1, 7)
  | 3 => some (2, 15)
  | 4 => some (10, 1000)
  | 5 => some (1, 7)
  | 6 => some (2, 500)
  | 7 => some (1, 15)
  | 8 => some (0, 50)
  | 9 => some (10, 10000)
  | 10 => some (0, 10000)
  | 11 => some (9, 256)
  | 12 => some (0, 15)
  | 13 => some (10, 10000)
  | 14 => some (0, 256)
  | _ => none

/-- The value of a parameter by number (R163). -/
def Params.value? (q : Params) : Nat → Option Nat
  | 0 => some q.station
  | 1 => some q.tHello
  | 2 => some q.nUp
  | 3 => some q.nLoss
  | 4 => some q.tHold
  | 5 => some q.w
  | 6 => some q.tAck
  | 7 => some q.nRetry
  | 8 => some q.tDly
  | 9 => some q.tHalt
  | 10 => some q.tFlush
  | 11 => some q.resume
  | 12 => some q.defaultHosts
  | 13 => some q.tLease
  | 14 => some q.poolLow
  | _ => none

/-- Writes a parameter by number (R161); a number above 14 writes nothing. -/
def Params.write (q : Params) (n v : Nat) : Params :=
  match n with
  | 0 => { q with station := v }
  | 1 => { q with tHello := v }
  | 2 => { q with nUp := v }
  | 3 => { q with nLoss := v }
  | 4 => { q with tHold := v }
  | 5 => { q with w := v }
  | 6 => { q with tAck := v }
  | 7 => { q with nRetry := v }
  | 8 => { q with tDly := v }
  | 9 => { q with tHalt := v }
  | 10 => { q with tFlush := v }
  | 11 => { q with resume := v }
  | 12 => { q with defaultHosts := v }
  | 13 => { q with tLease := v }
  | 14 => { q with poolLow := v }
  | _ => q

/-- The part's own station as sent in a HELLO (R88). -/
def Params.stationOctet (q : Params) : Byte := octet q.station

/-- The default host set (R121). -/
def Params.defaultHostSet (q : Params) : HostSet := BitVec.ofNat 4 q.defaultHosts

end Machine
end Sys2Proof
end

