-- ==== Sys2Proof/Machine/Flags.lean ====
section
/-! DEFINITION. The event unit of a port: its flags, mask, top event and interrupt line (R170 to R172). -/

namespace Sys2Proof.Machine

/-- The eleven events (spec/10 section 10.3), in rank order. -/
inductive Event where
  | leaseLost | linkChange | rxRefused | poolLow | rxHigh | txDone | rxReady | leaseGranted | tableSwapped | rxLow
  | unclaimed
deriving DecidableEq, Repr

/-- An event's rank (R172). -/
def Event.rank : Event → Nat
  | .leaseLost => 1
  | .linkChange => 2
  | .rxRefused => 3
  | .poolLow => 4
  | .rxHigh => 5
  | .txDone => 6
  | .rxReady => 7
  | .leaseGranted => 8
  | .tableSwapped => 9
  | .rxLow => 10
  | .unclaimed => 11

/-- An event's bit in the flag and mask fields: its position is its rank less one (section 11.5). -/
def Event.bit (e : Event) : BitVec 11 := 1#11 <<< (e.rank - 1)

/-- Whether some flag is set and unmasked (R171). -/
def EventUnit.pending (u : EventUnit) : Bool := (u.flags &&& u.mask) != 0#11

/-- The interrupt line follows the flags and the mask (R171). -/
def EventUnit.refresh (u : EventUnit) : EventUnit := { u with irq := u.pending }

/-- Sets the flag of an event, masked or not (R170). -/
def EventUnit.raise (u : EventUnit) (e : Event) : EventUnit :=
  EventUnit.refresh { u with flags := u.flags ||| e.bit }

/-- Clears every named flag (R170). -/
def EventUnit.acknowledge (u : EventUnit) (named : BitVec 11) : EventUnit :=
  EventUnit.refresh { u with flags := u.flags &&& ~~~named }

/-- Replaces the eleven enables (R171). -/
def EventUnit.setMask (u : EventUnit) (mask : BitVec 11) : EventUnit :=
  EventUnit.refresh { u with mask := mask }

/-- Every flag and every enable clear, the line deasserted (R174). -/
def EventUnit.cleared : EventUnit := { flags := 0, mask := 0, irq := false }

/-- The rank of the highest-ranked flag that is set and unmasked, 0 for none (R172). -/
def EventUnit.topRank (u : EventUnit) : Nat :=
  match (List.range 11).find? fun i => (u.flags &&& u.mask).getLsbD i with
  | some i => i + 1
  | none => 0

end Sys2Proof.Machine
end

