-- ==== Sys2Proof/Machine/Ops.lean ====
section
/-! DEFINITION. The named operations that the meanings share: the ports' state, events, the cell pool, frames and their
references, delivery, completion records, transmissions, and the lease. -/

namespace Sys2Proof.Machine

/-! ### Frames -/

/-- Cells of a frame: ceil(length / 64) (R2). -/
def cellsFor (length : Nat) : Nat := (length + (Config.cellBytes - 1)) / Config.cellBytes

/-- The number of cells of a frame (R2). -/
def Frame.cellCount (f : Frame) : Nat := cellsFor f.length

/-- Whether a frame asks for a completion record (R21). -/
def Frame.notifies (f : Frame) : Bool := f.notify.getD false

/-- A frame's class; a committed frame always has one (R21). -/
def Frame.classNo (f : Frame) : Fin 4 := f.cls.getD 0

/-- The number of cells of a list of frames. -/
def cellsOf (l : List Frame) : Nat := (l.map Frame.cellCount).sum

/-! ### Ports and events -/

/-- The state of port p. -/
def State.port (s : State) (p : Port) : PortState := s.ports.get p

/-- Changes the state of port p. -/
def State.modPort (s : State) (p : Port) (f : PortState → PortState) : State :=
  { s with ports := s.ports.set p (f (s.ports.get p)) }

/-- Raises an event on a port (R170). -/
def PortState.raise (ps : PortState) (e : Event) : PortState := { ps with events := ps.events.raise e }

/-- Raises an event on port p (R170). -/
def State.raise (s : State) (p : Port) (e : Event) : State := s.modPort p (·.raise e)

/-- Raises an event on all four ports. -/
def State.raiseAll (s : State) (e : Event) : State := { s with ports := s.ports.map (·.raise e) }

/-! ### The cell pool -/

/-- A port's reservation: its floor less its holdings, or 0 (R5). -/
def PortState.reservation (ps : PortState) : Nat := ps.floor - ps.holdings

/-- The sum of the four reservations (R5). -/
def State.reservations (s : State) : Nat := (Port.all.map fun q => (s.port q).reservation).sum

/-- The sum of the reservations of the three ports other than p (R6). -/
def State.reservedByOthers (s : State) (p : Port) : Nat :=
  ((Port.all.filter (· ≠ p)).map fun q => (s.port q).reservation).sum

/-- Shared free: free less the sum of the reservations, or 0 (R5). -/
def State.sharedFree (s : State) : Nat := s.pool.free - s.reservations

/-- Records the level of POOL_LOW and raises nothing (R15, for a change of P14). -/
def State.recordLevel (s : State) : State :=
  { s with pool := { s.pool with level := if s.sharedFree < s.params.poolLow then .below else .atOrAbove } }

/-- The comparison of shared free with P14 after a change to the pool: a fall from at or above raises POOL_LOW on all
four ports, and the level is recorded (R15). -/
def State.judgePoolLow (s : State) : State :=
  if s.sharedFree < s.params.poolLow ∧ s.pool.level = .atOrAbove then (s.raiseAll .poolLow).recordLevel
  else s.recordLevel

/-- While the peer is being halted, shared free at or above P11 lets it go: the flag clears and a GO is owed (R113). -/
def State.resumePeer (s : State) : State :=
  if s.engine.haltingPeer ∧ s.params.resume ≤ s.sharedFree then
    { s with engine := { s.engine with haltingPeer := false, flowOwed := .go } }
  else s

/-- What follows every change to the pool's counts (R15, R113). -/
def State.settlePool (s : State) : State := s.judgePoolLow.resumePeer

/-- k of the free cells, taken one by one, and those that are left. Which cell the pool takes is a free value each time
(R1, log 7). -/
def drawCells (tick : Nat) : Nat → List Nat → List Nat × List Nat
  | 0, l => ([], l)
  | k + 1, l =>
    let i := Config.cellChoice tick % l.length
    let r := drawCells (tick + 1) k (l.eraseIdx i)
    (l[i]?.toList ++ r.1, r.2)

/-- The cells of p's frames in a list move from its holdings to free (R4), before the pool is judged. -/
def State.returnFrames (s : State) (p : Port) (l : List Frame) : State :=
  { s.modPort p (fun ps => { ps with holdings := ps.holdings - cellsOf l }) with
    pool :=
      { s.pool with free := s.pool.free + cellsOf l, freeCells := s.pool.freeCells ++ l.flatMap Frame.cells } }

/-- Moves payment for k cells from p to q (R1), before the pool is judged. -/
def State.movePayment (s : State) (p q : Port) (k : Nat) : State :=
  (s.modPort p fun ps => { ps with holdings := ps.holdings - k }).modPort q fun ps =>
    { ps with holdings := ps.holdings + k }

/-- A frame that p pays for ends: its cells are freed (R4). -/
def State.freeFrame (s : State) (p : Port) (f : Frame) : State := (s.returnFrames p [f]).settlePool

/-- Frees every cell of the inbound account and forgets what was stored in them (R9, R10). -/
def State.releaseInbound (s : State) : State :=
  let s1 : State :=
    { s with
      pool :=
        { s.pool with
          free := s.pool.free + s.pool.inbound, inbound := 0
          freeCells := s.pool.freeCells ++ s.pool.inboundCells, inboundCells := [] }
      framer := { s.framer with stored := [] } }
  if s.pool.inbound = 0 then s1 else s1.settlePool

/-! ### Delivered frames and their references -/

/-- A number that no frame of the store has. Numbers are never visible at a port (log 8). -/
def State.freshFrame (s : State) : Nat := (s.frames.map (·.1)).foldr max 0 + 1

/-- The frame of the store that has a number. -/
def State.frame? (s : State) (n : Nat) : Option Frame := (s.frames.find? (·.1 == n)).map (·.2)

/-- Replaces the frame that has a number. -/
def State.putFrame (s : State) (n : Nat) (f : Frame) : State :=
  { s with frames := s.frames.map fun x => if x.1 = n then (n, f) else x }

/-- Takes the frame that has a number out of the store. -/
def State.dropFrame (s : State) (n : Nat) : State := { s with frames := s.frames.filter (·.1 ≠ n) }

/-- The lowest-numbered port that holds a record of frame n (R14). -/
def State.lowestHolder (s : State) (n : Nat) : Option Port :=
  Port.all.find? fun q => (s.port q).rx.records.any (·.frame == n)

/-- Port p, whose record has just been removed, drops its reference to frame n (R14), before the pool is judged. -/
def State.dropReference (s : State) (p : Port) (n : Nat) : State :=
  match s.frame? n with
  | none => s
  | some f =>
    let left := f.refs.getD 0 - 1
    if left = 0 then (s.returnFrames (f.payer.getD p) [f]).dropFrame n
    else if f.payer = some p then
      match s.lowestHolder n with
      | some q => (s.movePayment p q f.cellCount).putFrame n { f with refs := some left, payer := some q }
      | none => s.putFrame n { f with refs := some left }
    else s.putFrame n { f with refs := some left }

/-! ### Receive lists -/

/-- Appends a receive record: RX_READY, and RX_HIGH when the mark state moves to ABOVE (R138). -/
def PortState.appendRecord (ps : PortState) (r : RxRecord) : PortState :=
  let records := ps.rx.records ++ [r]
  let ps' := PortState.raise { ps with rx := { ps.rx with records := records } } .rxReady
  if ps.rx.markState = .below ∧ ps.rx.high ≤ records.length then
    PortState.raise { ps' with rx := { ps'.rx with markState := .above } } .rxHigh
  else ps'

/-- Refuses a delivery: the last-refusal record and RX_REFUSED (R143). -/
def PortState.refuse (ps : PortState) (r : LastRefusal) : PortState :=
  PortState.raise { ps with rx := { ps.rx with lastRefusal := some r } } .rxRefused

/-- Appends a receive record to the list of q. -/
def State.appendRecord (s : State) (r : RxRecord) (q : Port) : State := s.modPort q (·.appendRecord r)

/-- Refuses a delivery to q. -/
def State.refuse (s : State) (r : LastRefusal) (q : Port) : State := s.modPort q (·.refuse r)

/-- A target has room when its receive list holds fewer than 32 records (R123, R35). -/
def PortState.hasRoom (ps : PortState) : Bool := ps.rx.records.length < Config.rxPlaces

/-- Whether a port's holdings plus k are at most its ceiling (R6, R12). -/
def PortState.canPay (ps : PortState) (k : Nat) : Bool := ps.holdings + k ≤ ps.ceiling

/-- The targets with room. -/
def State.roomSet (s : State) (targets : HostSet) : HostSet :=
  HostSet.ofPorts fun q => targets.has q && (s.port q).hasRoom

/-- The payer of a delivery of k cells (R12, R13): the sender of a local frame when it is a target with room;
else the lowest-numbered target with room that can pay. -/
def State.choosePayer (s : State) (k : Nat) (room : HostSet) (sender : Option Port) : Option Port :=
  let ableTarget := room.ports.find? fun q => (s.port q).canPay k
  match sender with
  | some p => if room.has p then some p else ableTarget
  | none => ableTarget

/-- The targets that a delivery gives a record: the targets with room when there is a payer, else none. -/
def State.deliveredSet (s : State) (k : Nat) (targets : HostSet) (sender : Option Port) : HostSet :=
  match s.choosePayer k (s.roomSet targets) sender with
  | some _ => s.roomSet targets
  | none => 0#4

/-- Moves the payment of a frame being delivered to its payer: from the inbound account (R12), or from the sender of a
local frame, whose payment stays where it is when it is the payer itself (R13). -/
def State.chargePayer (s : State) (sender : Option Port) (payer : Port) (k : Nat) : State :=
  match sender with
  | none =>
    { s.modPort payer (fun ps => { ps with holdings := ps.holdings + k }) with
      pool := { s.pool with inbound := s.pool.inbound - k } }
  | some p => if p = payer then s else s.movePayment p payer k

/-- Frees the cells of a frame that no target takes, from the account that pays for it (R12, R13). -/
def State.refundAccount (s : State) (sender : Option Port) (f : Frame) : State :=
  match sender with
  | none =>
    { s with
      pool :=
        { s.pool with
          free := s.pool.free + f.cellCount, inbound := s.pool.inbound - f.cellCount
          freeCells := s.pool.freeCells ++ f.cells } }
  | some p => s.returnFrames p [f]

/-- Delivers a frame to a target set, in the order of R123 (and R35 for a local frame, whose sender is given): room and
payer are judged on the counts as they stand, payment is settled, records are appended with the delivered set, and the
refused targets are told. -/
def State.deliver (s : State) (f : Frame) (targets : HostSet) (source : Source) (first : Option Nat)
    (sender : Option Port) : State :=
  let room := s.roomSet targets
  match s.choosePayer f.cellCount room sender with
  | some payer =>
    let s1 := (s.chargePayer sender payer f.cellCount).settlePool
    let n := s1.freshFrame
    let held : Frame := { f with state := .delivered, refs := some room.ports.length, payer := some payer }
    let record : RxRecord :=
      { frame := n, length := f.length, source := source, cls := f.classNo, first := first, delivered := room }
    let s2 := room.ports.foldl (fun t q => t.appendRecord record q) { s1 with frames := s1.frames ++ [(n, held)] }
    (targets &&& ~~~room).ports.foldl (fun t q => t.refuse { reason := .room, source := source } q) s2
  | none =>
    targets.ports.foldl
      (fun t q => t.refuse { reason := if room.has q then .ceiling else .room, source := source } q)
      (s.refundAccount sender f).settlePool

/-! ### Completion records -/

/-- Completion records plus reserved slots (R29). -/
def PortState.completions (ps : PortState) : Nat := ps.cpl.records.length + ps.cpl.reserved

/-- Appends a completion record and raises TX_DONE (R146). -/
def PortState.appendCompletion (ps : PortState) (r : CplRecord) : PortState :=
  PortState.raise { ps with cpl := { ps.cpl with records := ps.cpl.records ++ [r] } } .txDone

/-- A reserved slot becomes the completion record of a trunk frame (R29, R146). -/
def State.convertSlot (s : State) (p : Port) (f : Frame) (outcome : CplOutcome) : State :=
  s.modPort p fun ps =>
    PortState.appendCompletion { ps with cpl := { ps.cpl with reserved := ps.cpl.reserved - 1 } }
      { tag := f.tag.getD 0, outcome := outcome, sets := none }

/-- A waiting frame of p fails: its cells are freed, and its slot is converted if it has one (R53, R80). -/
def State.failFrame (s : State) (p : Port) (outcome : CplOutcome) (f : Frame) : State :=
  let s1 := s.freeFrame p f
  if f.notifies then s1.convertSlot p f outcome else s1

/-- Every waiting frame of p fails, head first. -/
def State.failQueue (s : State) (outcome : CplOutcome) (p : Port) : State :=
  (s.port p).queue.foldl (fun t f => t.failFrame p outcome f) (s.modPort p fun ps => { ps with queue := [] })

/-- Every waiting frame of every port fails (R53, R80). -/
def State.failWaiting (s : State) (outcome : CplOutcome) : State :=
  Port.all.foldl (fun t p => t.failQueue outcome p) s

/-- A window entry fails with LINK_OFF; an orphan ends without a record (R80). -/
def State.failEntry (s : State) (e : WindowEntry) : State :=
  let s1 := s.freeFrame e.owner e.frame
  if e.frame.notifies && !e.orphan then s1.convertSlot e.owner e.frame .linkOff else s1

/-- The IN WINDOW frames of p, orphans included (R41). -/
def State.windowCount (s : State) (p : Port) : Nat := (s.engine.window.filter (·.owner == p)).length

/-- The transmit count of p (R41). -/
def State.transmitCount (s : State) (p : Port) : Nat := (s.port p).queue.length + s.windowCount p

/-! ### The check and the line (R60, R62) -/

/-- One bit of the check register: x^16 + x^12 + x^5 + 1 (R62). -/
def checkBit (r : Word) : Word := if r.msb then (r <<< 1) ^^^ 0x1021#16 else r <<< 1

/-- One octet shifted in, most significant bit first (R62). -/
def checkOctet (r : Word) (b : Byte) : Word :=
  checkBit (checkBit (checkBit (checkBit (checkBit (checkBit (checkBit (checkBit
    (r ^^^ (b.zeroExtend 16 <<< 8)))))))))

/-- The check register after a run of octets, from all ones (R62). -/
def checkOf (l : List Byte) : Word := l.foldl checkOctet 0xFFFF#16

/-- A frame's octets with its two check octets: the inverted register, high octet first (R62). -/
def withCheck (l : List Byte) : List Byte := l ++ octets16 (~~~(checkOf l))

/-- The line octets of one frame octet (R60). -/
def transparent (b : Byte) : List Byte :=
  if b = Config.marker ∨ b = Config.escape then [Config.escape, b ^^^ Config.escapeFlip] else [b]

/-- The line octets of a frame, before its closing marker (R60). -/
def lineOctets (l : List Byte) : List Byte := l.flatMap transparent

/-- The octets that abort a frame after some line octets: escape and marker, or the marker alone when the last octet
sent was an escape (R66). -/
def abortOctets (sent : List Byte) : List Byte :=
  if sent.getLast? = some Config.escape then [Config.marker] else [Config.escape, Config.marker]

/-! ### Transmissions -/

/-- The transmission in progress ends, normally or by abort: the on-line flag clears, and the cells of a frame that has
already ended are freed (R65, R94, R4). -/
def State.endTransmission (s : State) (closing : List Byte) : State :=
  match s.framer.tx with
  | .idle => s
  | .sending t =>
    let s1 : State :=
      { s with
        framer := { s.framer with tx := .idle, closing := closing }
        engine := { s.engine with window := s.engine.window.map fun e => { e with onLine := false } } }
    match t.held with
    | some (p, f) => s1.freeFrame p f
    | none => s1

/-- Aborts the transmission in progress, if there is one (R66). How many line octets have gone is a free value
(log 6). -/
def State.abortTransmission (s : State) : State :=
  match s.framer.tx with
  | .idle => s
  | .sending t =>
    let line := lineOctets t.octets
    let sent := line.take (Config.lineOctetsSent s.freeTick % line.length)
    State.endTransmission { s with freeTick := s.freeTick + 1 } (abortOctets sent)

/-- Starts a frame: its octets are fixed (R65); in UP a HELLO due is cleared and the HELLO timer stops (R76); every
frame but HELLO clears ack owed and stops the ack-delay timer (R99, R102). -/
def State.startFrame (s : State) (kind : FrameType) (octets : List Byte) : State :=
  { s with
    framer := { s.framer with tx := .sending { kind := kind, octets := octets, held := none } }
    link :=
      if s.link.state = .up then { s.link with helloDue := false, helloTimer := .stopped } else s.link
    engine :=
      if kind = .hello then s.engine else { s.engine with ackOwed := false, ackDelay := .stopped } }

/-! ### The address tables and the lease -/

/-- The shadow takes the active table's entries; marks and dirty flag clear (R131, R132). -/
def Classifier.revert (c : Classifier) : Classifier :=
  { c with shadow := c.active.map fun a => { entry := a.entry, written := false }, dirty := false }

/-- Ends the holding of the lease (R154): the shadow is reverted, LEASE_LOST is raised on expiry alone, and the lease
goes to the head of the waiting list or becomes FREE. Nothing when the lease is FREE. -/
def State.endHolding (s : State) (expired : Bool) : State :=
  match s.lease.holder with
  | none => s
  | some h =>
    let s1 : State := { s with classifier := s.classifier.revert }
    let s2 := if expired then s1.raise h .leaseLost else s1
    match s.lease.waiting with
    | [] => { s2 with lease := { holder := none, timer := .stopped, waiting := [] } }
    | q :: rest =>
      State.raise
        { s2 with lease := { holder := some q, timer := .running s.params.tLease, waiting := rest } } q .leaseGranted

/-- The lease timer is started with P13 as it stands (R151). -/
def State.startLeaseTimer (s : State) : State :=
  { s with lease := { s.lease with timer := .running s.params.tLease } }

end Sys2Proof.Machine
end

