-- ==== Sys2Proof/Machine/LinkOps.lean ====
section
/-! DEFINITION. The moves of the link state machine (spec/05), the flush timer (spec/03 section 3.5) and the return of
the window (R50), shared by the commands and events that cause them. -/

namespace Sys2Proof.Machine

/-- A change of link state raises LINK_CHANGE on all four ports (R75). -/
def State.setLinkState (s : State) (l : LinkState) : State :=
  State.raiseAll { s with link := { s.link with state := l } } .linkChange

/-- The expiry of the flush timer: every waiting frame fails with LINK_DOWN, the timer is stopped and the flushed
condition is set (R53). -/
def State.flushExpiry (s : State) : State :=
  let s1 := s.failWaiting .linkDown
  { s1 with link := { s1.link with flushTimer := .stopped, flushed := true } }

/-- Starts the flush timer when it is stopped; with T_flush at 0 it expires at once (R52, R56). -/
def State.startFlushTimer (s : State) : State :=
  match s.link.flushTimer with
  | .running _ => s
  | .stopped =>
    if s.params.tFlush = 0 then s.flushExpiry
    else { s with link := { s.link with flushTimer := .running s.params.tFlush } }

/-- Entry into SEEKING from CONFIRMING or LOST, and the link part of TRUNK ON: counts at 0, a HELLO due at once, the
HELLO timer started, the interval and hold-off timers stopped, LINK_CHANGE (R76 to R79, R83, R87). -/
def State.enterSeeking (s : State) : State :=
  State.setLinkState
    { s with
      link :=
        { s.link with
          confCount := 0, lossCount := 0, heard := false, helloDue := true
          helloTimer := .running s.params.tHello, intervalTimer := .stopped, holdOffTimer := .stopped } }
    .seeking

/-- Entry into CONFIRMING on a HELLO from another station (R81, R76, R77). -/
def State.enterConfirming (s : State) (station : Byte) : State :=
  State.setLinkState
    { s with
      link :=
        { s.link with
          peer := some station, confCount := 0, lossCount := 0, heard := false, helloDue := true
          helloTimer := .running s.params.tHello, intervalTimer := .running s.params.tHello } }
    .confirming

/-- What entry into UP and departure from it clear in the transfer engine: no acknowledgement, REJECT or flow frame is
owed, no flag is set, no round is in progress, no timer runs (R84, R86, R114). -/
def Engine.quiet (e : Engine) : Engine :=
  { e with
    ackOwed := false, ackDelay := .stopped, rejectOwed := false, rejectOutstanding := false, flowOwed := .none
    peerHalted := false, haltingPeer := false, round := none, ackTimer := .stopped, haltTimer := .stopped }

/-- Entry into UP (R84): sequence numbers at 0, the engine quiet, the flush timer stopped and the flushed condition
clear, the interval and the idle HELLO timer started, LINK_CHANGE. The confirmation count stands at N_up (R82). -/
def State.enterUp (s : State) : State :=
  State.setLinkState
    { s with
      engine := { s.engine.quiet with vs := 0, vr := 0 }
      link :=
        { s.link with
          confCount := s.params.nUp, lossCount := 0, heard := false, helloDue := false
          helloTimer := .running s.params.tHello, intervalTimer := .running s.params.tHello
          flushTimer := .stopped, flushed := false } }
    .up

/-- A frame in reception is cut off: its cells are freed and it is not counted; the receiver moves to the given state
(R71). A receiver that is not RECEIVING keeps its state. DESIGN CHOICE (log 23): escape pending, the bad escape mark and
the other registers of the frame keep their values until the next frame starts. -/
def State.cutOff (s : State) (after : RxState) : State :=
  if s.framer.rxState = .receiving then
    let s1 := s.releaseInbound
    { s1 with framer := { s1.framer with rxState := after } }
  else s

/-- Each orphan ends and its cells are freed (R51). -/
def State.discardOrphans (s : State) : State :=
  (s.engine.window.filter (·.orphan)).foldl (fun t e => t.freeFrame e.owner e.frame) s

/-- The frames of the window that go back to the queue of p, in window order (R50). -/
def returnedFrames (w : List WindowEntry) (p : Port) : List Frame :=
  (w.filter fun e => e.owner == p && !e.orphan).map fun e => { e.frame with state := .waiting }

/-- The returned frames stand at the head of the queue of p (R50). -/
def State.requeue (s : State) (w : List WindowEntry) (p : Port) : State :=
  s.modPort p fun ps => { ps with queue := returnedFrames w p ++ ps.queue }

/-- The window is returned to the queues and the orphans are discarded (R50, R51). -/
def State.returnWindow (s : State) : State :=
  let w := s.engine.window
  let s1 := s.discardOrphans
  let s2 := Port.all.foldl (fun t p => t.requeue w p) s1
  { s2 with engine := { s2.engine with window := [] } }

/-- What entry into LOST does to the link's own timers, cause and state, with LINK_CHANGE (R76 to R78, R86). -/
def State.enterLost (s : State) (cause : LossCause) : State :=
  State.setLinkState
    { s with
      link :=
        { s.link with
          helloTimer := .stopped, helloDue := false, intervalTimer := .stopped, lossCount := 0, heard := false
          lastCause := cause, holdOffTimer := .running s.params.tHold } }
    .lost

/-- The link leaves UP for LOST, in the order of R86. -/
def State.leaveUp (s : State) (cause : LossCause) : State :=
  let s1 := s.abortTransmission.returnWindow
  let s2 := s1.cutOff .discarding
  let s3 : State := { s2 with engine := s2.engine.quiet }
  s3.startFlushTimer.enterLost cause

/-- The link enters LOST with cause LOOPED from SEEKING or CONFIRMING: a HELLO on the line is aborted (R81, R82, R87). -/
def State.loopedBack (s : State) : State := s.abortTransmission.enterLost .looped

/-! ### Acknowledgement (R95, R96) and rounds -/

/-- The window base V(A): the head's number, or V(S) when the window is empty (R93). -/
def Engine.va (e : Engine) : Seq :=
  match e.window with
  | [] => e.vs
  | x :: _ => x.seq

/-- An acknowledgement number is acceptable when n less V(A), modulo 16, is at most the window count (R95). -/
def Engine.acceptable (e : Engine) (n : Seq) : Bool := (n - e.va).toNat ≤ e.window.length

/-- A frame that ends while it is on the line keeps its cells in use until its transmission ends (R4, R94). -/
def State.holdOnLine (s : State) (p : Port) (f : Frame) : State :=
  match s.framer.tx with
  | .sending t => { s with framer := { s.framer with tx := .sending { t with held := some (p, f) } } }
  | .idle => s.freeFrame p f

/-- The head entry of the window is acknowledged (R96). -/
def State.ackHead (s : State) : State :=
  match s.engine.window with
  | [] => s
  | e :: rest =>
    let s1 : State := { s with engine := { s.engine with window := rest } }
    let s2 := if e.onLine then s1.holdOnLine e.owner e.frame else s1.freeFrame e.owner e.frame
    if e.frame.notifies && !e.orphan then s2.convertSlot e.owner e.frame .acked else s2

/-- The first n entries of the window are acknowledged, in window order (R96). -/
def State.ackEntries (s : State) : Nat → State
  | 0 => s
  | n + 1 => State.ackEntries s.ackHead n

/-- An acceptable acknowledgement number is processed (R96): entries leave, the ack timer restarts for a new head or
stops with an empty window (R103), and a round over an emptied window ends (R105). -/
def State.acknowledge (s : State) (n : Seq) : State :=
  let k := (n - s.engine.va).toNat
  let s1 := s.ackEntries k
  if s1.engine.window = [] then { s1 with engine := { s1.engine with ackTimer := .stopped, round := none } }
  else if 0 < k ∧ ¬s1.engine.peerHalted then
    { s1 with engine := { s1.engine with ackTimer := .running s1.params.tAck } }
  else s1

/-- A round starts with its origin and next position at n, replacing any other, and the ack timer restarts
(R104, R106, R110). -/
def State.startRound (s : State) (n : Seq) : State :=
  { s with engine := { s.engine with round := some { origin := n, next := n }, ackTimer := .running s.params.tAck } }

/-- The retry count of the entry with number n. -/
def Engine.retryOf (e : Engine) (n : Seq) : Nat :=
  match e.window.find? (·.seq == n) with
  | some x => x.retry
  | none => 0

/-- The retry count of entry n rises by one. -/
def Engine.bumpRetry (e : Engine) (n : Seq) : Engine :=
  { e with window := e.window.map fun x => if x.seq = n then { x with retry := x.retry + 1 } else x }

/-- Entry n is to be sent again: the retry limit is reported, or its count rises and a round starts from it
(R104, R106). -/
def State.retryFrom (s : State) (n : Seq) : State :=
  if s.params.nRetry ≤ s.engine.retryOf n then s.leaveUp .retryLimit
  else State.startRound { s with engine := s.engine.bumpRetry n } n

/-- Ack owed is set; from clear it starts the ack-delay timer, which with T_dly at 0 is expired at once (R99). -/
def State.oweAck (s : State) : State :=
  if s.engine.ackOwed then s
  else
    { s with
      engine :=
        { s.engine with
          ackOwed := true
          ackDelay := if s.params.tDly = 0 then .expired else .running s.params.tDly } }

/-- An out-of-sequence frame: a REJECT is owed unless one is outstanding (R98). -/
def State.oweReject (s : State) : State :=
  if s.engine.rejectOutstanding then s
  else { s with engine := { s.engine with rejectOwed := true, rejectOutstanding := true } }

end Sys2Proof.Machine
end

