-- ==== Sys2Proof/Machine/PortOps.lean ====
section
/-! DEFINITION. Transactions of a host port (spec/10 section 10.1): the status byte, taking a command, its bytes out of
the port, and what RESET does to a port's lines. -/

namespace Sys2Proof.Machine

/-- What a command does when it is taken: the state it leaves, its result so far, its reply, and its data phase. -/
structure Taken where
  state : State
  result : Result
  reply : List Byte := []
  phase : DataPhase := .none

/-- The status byte of port p (R169, section 11.5). -/
def State.statusByte (s : State) (p : Port) : Byte :=
  let ps := s.port p
  bitAt 7 ps.events.pending ||| bitAt 6 (!ps.rx.records.isEmpty) ||| bitAt 5 (!ps.cpl.records.isEmpty) |||
    bitAt 4 (s.link.state == .up) ||| bitAt 3 (s.lease.holder == some p) ||| bitAt 2 ps.slot.isSome |||
    bitAt 1 (s.transmitCount p == Config.transmitLimit) ||| bitAt 0 (s.sharedFree < s.params.poolLow)

/-- The first bytes out of the port in every transaction: status byte and previous result (R166). -/
def State.header (s : State) (p : Port) : List Byte := [s.statusByte p, (s.port p).prevResult.code]

/-- m bytes complete on a port: those still to be shifted out, in order, then 0x00 (R166, R177). -/
def PortState.shiftOut (ps : PortState) (m : Nat) : PortState :=
  { ps with out := ps.out ++ (ps.reply ++ zeros m).take m, reply := ps.reply.drop m }

/-- Chip select falls on a port: the bytes given are the first out of it (R165, R166). -/
def PortState.fall (ps : PortState) (header : List Byte) : PortState :=
  { ps with txn := .selected [], out := [], reply := header }

/-- Chip select of p falls, and opens a transaction: the status byte is captured (R169). With chip select already low
there is no fall; while RESET is asserted the transaction is ignored to its end (R165). -/
def State.selectPort (s : State) (p : Port) : State :=
  if (s.port p).txn = .closed then
    s.modPort p fun ps => if s.resetAsserted then { ps with txn := .ignored } else ps.fall (s.header p)
  else s

/-- The result of a transaction with a command byte (R167): the one its command has so far, or TRUNCATED when its
arguments did not complete (R168). An ignored one has none (R165, R175). -/
def Txn.result? : Txn → Option Result
  | .closed => none
  | .selected [] => none
  | .selected (_ :: _) => some .truncated
  | .opened r _ => some r
  | .ignored => none

/-- Chip select rises on a port: the transaction ends and its result, if it has one, becomes the previous result; the
rest of the reply is lost (R165, R167, R177). -/
def PortState.rise (ps : PortState) : PortState :=
  { ps with prevResult := ps.txn.result?.getD ps.prevResult, txn := .closed, reply := [] }

/-- The last of m bytes with which port p takes a command: the command acts, and its reply follows what is still to be
shifted out, so that it begins at the next byte and never before byte 2 (R166). -/
def State.takeBytes (s : State) (p : Port) (m : Nat) (act : State → Taken) : State :=
  let shifted := (s.port p).shiftOut m
  let r := act s
  r.state.modPort p fun ps =>
    { ps with txn := .opened r.result r.phase, out := shifted.out, reply := shifted.reply ++ r.reply }

/-- Port p takes a command with n argument bytes: all its bytes, or those that a transaction already begun still lacks
(log 1). With chip select high it falls first; a transaction whose command was taken has ended before, and chip select
has fallen again (log 2). While RESET is asserted, and up to the rise of chip select in a transaction that is ignored,
nothing is taken (R165). -/
def State.takeCommand (s : State) (p : Port) (n : Nat) (act : State → Taken) : State :=
  if s.resetAsserted then s.modPort p fun ps => { ps with txn := .ignored }
  else
    match (s.port p).txn with
    | .ignored => s
    | .closed => (s.selectPort p).takeBytes p (n + 1) act
    | .opened _ _ => ((s.modPort p (·.rise)).selectPort p).takeBytes p (n + 1) act
    | .selected got => s.takeBytes p (n + 1 - got.length) act

/-- A command that leaves the state as it is. -/
def State.answers (s : State) (result : Result) (reply : List Byte := []) : Taken :=
  { state := s, result := result, reply := reply }

/-- A management command is judged first on the lease (R159). -/
def State.ifHolder (s : State) (p : Port) (act : Taken) : Taken :=
  if s.lease.holder = some p then act else s.answers .notHolder

/-- An event of the trunk, a timer or the receive line: nothing happens while RESET is asserted (R175). -/
def State.trunkEvent (s : State) (act : State → State) : State := if s.resetAsserted then s else act s

end Sys2Proof.Machine
end

