-- ==== Sys2Proof/Machine/Frames.lean ====
section
/-! DEFINITION. Building, committing and cancelling frames (spec/02). -/

namespace Sys2Proof.Machine

/-- The outcome of a port claim of k cells by p (R6). -/
def State.judgeClaim (s : State) (p : Port) (k : Nat) : Result :=
  if ¬(s.port p).canPay k then .overCeiling
  else if s.pool.free < k + s.reservedByOthers p then .poolShort
  else .ok

/-- A granted port claim (R7), before the pool is judged: its cells leave the free ones, and p pays for them. -/
def State.grantClaim (s : State) (p : Port) (k : Nat) : State :=
  { s.modPort p (fun ps => { ps with holdings := ps.holdings + k }) with
    pool := { s.pool with free := s.pool.free - k, freeCells := (drawCells s.freeTick k s.pool.freeCells).2 }
    freeTick := s.freeTick + k }

/-- A frame just opened in the cells granted to it (R25): no byte written yet. -/
def openedFrame (p : Port) (length : Nat) (cells : List Nat) : Frame :=
  { cells := cells, length := length, payload := [], origin := .port p, state := .building, cls := none, address := none, tag := none
    notify := none, refs := none, payer := none }

/-- OPEN FRAME: SLOT_BUSY, BAD_ARG, then the claim (R25). -/
def State.openFrame (s : State) (p : Port) (length : Nat) : Taken :=
  if (s.port p).slot.isSome then s.answers .slotBusy
  else if length = 0 ∨ Config.maxPayload < length then s.answers .badArg
  else
    match s.judgeClaim p (cellsFor length) with
    | .ok =>
      { state :=
          ((s.grantClaim p (cellsFor length)).settlePool).modPort p fun ps =>
            { ps with
              slot := some (openedFrame p length (drawCells s.freeTick (cellsFor length) s.pool.freeCells).1) }
        result := .ok }
    | r => s.answers r

/-- OPEN FRAME (R25). -/
def execOpenFrame (p : Port) (length : Word) (s : State) : Host.Outcome State Fault Refusal :=
  .next (s.takeCommand p 2 fun t => t.openFrame p length.toNat)

/-- APPEND DATA (R26): taken at its command byte, it opens a data phase; NO_FRAME when the slot is closed. -/
def State.appendData (s : State) (p : Port) : Taken :=
  { state := s, result := if (s.port p).slot.isSome then .ok else .noFrame, phase := .append }

/-- APPEND DATA (R26). -/
def execAppendData (p : Port) (s : State) : Host.Outcome State Fault Refusal :=
  .next (s.takeCommand p 0 (·.appendData p))

/-- What one data-phase byte of APPEND DATA does in a transaction with result r so far (R26): it is written at the fill,
ignored with OVERFILL in a full frame, or ignored after NO_FRAME. -/
def PortState.appendByte (ps : PortState) (r : Result) (b : Byte) : PortState :=
  match ps.slot with
  | none => ps
  | some f =>
    if r = .noFrame then ps
    else if f.payload.length < f.length then { ps with slot := some { f with payload := f.payload ++ [b] } }
    else { ps with txn := .opened .overfill .append }

/-- The checks that the two commits share: an open slot that is full (R30, R34). -/
def State.commitChecks (s : State) (p : Port) (act : Frame → Taken) : Taken :=
  match (s.port p).slot with
  | none => s.answers .noFrame
  | some f => if f.payload.length = f.length then act f else s.answers .notFull

/-- Whether a commit finds no completion slot (R29). -/
def PortState.lacksSlot (ps : PortState) (notify : Bool) : Bool :=
  notify && Config.completionPlaces ≤ ps.completions

/-- What a passing COMMIT TRUNK does (R31). -/
def State.queueFrame (s : State) (p : Port) (f : Frame) (notify : Bool) : State :=
  s.modPort p fun ps =>
    { ps with
      slot := none, queue := ps.queue ++ [f]
      cpl := { ps.cpl with reserved := if notify then ps.cpl.reserved + 1 else ps.cpl.reserved } }

/-- COMMIT TRUNK: NO_FRAME, NOT_FULL, BAD_ARG, LINK_OFF, LINK_DOWN, QUEUE_FULL, NO_SLOT (R30, R31). -/
def State.commitTrunk (s : State) (p : Port) (address : Word) (cls tag options : Byte) : Taken :=
  s.commitChecks p fun f =>
    match classArg cls with
    | none => s.answers .badArg
    | some c =>
      if s.link.state = .off then s.answers .linkOff
      else if s.link.flushed then s.answers .linkDown
      else if Config.transmitLimit ≤ s.transmitCount p then s.answers .queueFull
      else if (s.port p).lacksSlot (notifyOption options) then s.answers .noSlot
      else
        { state :=
            s.queueFrame p
              { f with
                state := .waiting, cls := some c, address := some address, tag := some tag
                notify := some (notifyOption options) }
              (notifyOption options)
          result := .ok }

/-- COMMIT TRUNK (R30, R31). -/
def execCommitTrunk (p : Port) (address : Word) (cls tag options : Byte) (s : State) :
    Host.Outcome State Fault Refusal :=
  .next (s.takeCommand p 5 fun t => t.commitTrunk p address cls tag options)

/-- The completion record of a COMMIT LOCAL (R36). -/
def localRecord (tag : Byte) (delivered targets : HostSet) : CplRecord :=
  { tag := tag, outcome := if delivered = 0#4 then .noTarget else .delivered
    sets := some (delivered, targets &&& ~~~delivered) }

/-- What a passing COMMIT LOCAL does, in the order of R35. -/
def State.deliverLocal (s : State) (p : Port) (f : Frame) (targets : HostSet) : State :=
  let delivered := s.deliveredSet f.cellCount targets (some p)
  let s1 := s.deliver f targets (.fromPort p) none (some p)
  s1.modPort p fun ps =>
    let ps' :=
      if f.notifies then ps.appendCompletion (localRecord (f.tag.getD 0) delivered targets) else ps
    { ps' with slot := none }

/-- COMMIT LOCAL: NO_FRAME, NOT_FULL, BAD_ARG, NO_SLOT (R34, R35). -/
def State.commitLocal (s : State) (p : Port) (targets cls tag options : Byte) : Taken :=
  s.commitChecks p fun f =>
    match classArg cls with
    | none => s.answers .badArg
    | some c =>
      if hostSetArg targets = 0#4 then s.answers .badArg
      else if (s.port p).lacksSlot (notifyOption options) then s.answers .noSlot
      else
        { state :=
            s.deliverLocal p
              { f with cls := some c, tag := some tag, notify := some (notifyOption options) }
              (hostSetArg targets)
          result := .ok }

/-- COMMIT LOCAL (R34, R35). -/
def execCommitLocal (p : Port) (targets cls tag options : Byte) (s : State) : Host.Outcome State Fault Refusal :=
  .next (s.takeCommand p 4 fun t => t.commitLocal p targets cls tag options)

/-- DISCARD FRAME (R28). -/
def State.discardFrame (s : State) (p : Port) : Taken :=
  match (s.port p).slot with
  | none => s.answers .noFrame
  | some f => { state := (s.modPort p fun ps => { ps with slot := none }).freeFrame p f, result := .ok }

/-- DISCARD FRAME (R28). -/
def execDiscardFrame (p : Port) (s : State) : Host.Outcome State Fault Refusal :=
  .next (s.takeCommand p 0 fun t => t.discardFrame p)

/-- Whether a frame carries a tag. -/
def Frame.hasTag (f : Frame) (tag : Byte) : Bool := f.tag == some tag

/-- CANCEL takes back a waiting frame (R38): its cells are freed and its reserved slot, if it had one, is released. -/
def State.cancelFrame (s : State) (p : Port) (tag : Byte) (f : Frame) : State :=
  State.freeFrame
    (s.modPort p fun ps =>
      { ps with
        queue := ps.queue.eraseP (·.hasTag tag)
        cpl := { ps.cpl with reserved := if f.notifies then ps.cpl.reserved - 1 else ps.cpl.reserved } })
    p f

/-- CANCEL: the first case of R38 that applies. -/
def State.cancel (s : State) (p : Port) (tag : Byte) : Taken :=
  match (s.port p).queue.find? (·.hasTag tag) with
  | some f => { state := s.cancelFrame p tag f, result := .ok }
  | none =>
    if s.engine.window.any fun e => e.owner == p && !e.orphan && e.frame.hasTag tag then s.answers .inFlight
    else s.answers .notFound

/-- CANCEL (R38). -/
def execCancel (p : Port) (tag : Byte) (s : State) : Host.Outcome State Fault Refusal :=
  .next (s.takeCommand p 1 fun t => t.cancel p tag)

end Sys2Proof.Machine
end

