-- ==== Sys2Proof/Machine/HostPort.lean ====
section
/-! DEFINITION. The commands of the host port itself and of the event unit (spec/10): NOP, READ STATUS, READ EVENTS,
ACK EVENTS, SET EVENT MASK, PORT RESET, an illegal code, the end of a transaction, and the RESET pin. -/

namespace Sys2Proof.Machine

/-- NOP (R173). -/
def State.nop (s : State) : Taken := s.answers .ok

/-- NOP (R173). -/
def execNop (p : Port) (s : State) : Host.Outcome State Fault Refusal := .next (s.takeCommand p 0 State.nop)

/-- The reply of READ STATUS (R173, section 11.4). -/
def State.statusReply (s : State) (p : Port) : List Byte :=
  let ps := s.port p
  count16 s.pool.free ++ count16 s.sharedFree ++ count16 ps.holdings ++ [octet ps.floor] ++ count16 ps.ceiling ++
    [octet ps.queue.length, octet (s.windowCount p), octet ps.rx.records.length, octet ps.completions,
      s.link.state.code, leaseField s.lease.holder] ++
    lastRefusalField ps.rx.lastRefusal ++ count16 s.classifier.unclaimed

/-- READ STATUS (R173). -/
def State.readStatus (s : State) (p : Port) : Taken := s.answers .ok (s.statusReply p)

/-- READ STATUS (R173). -/
def execReadStatus (p : Port) (s : State) : Host.Outcome State Fault Refusal :=
  .next (s.takeCommand p 0 (·.readStatus p))

/-- The reply of READ EVENTS (R172, section 11.4). -/
def eventsReply (u : EventUnit) : List Byte :=
  octets16 (u.flags.zeroExtend 16) ++ octets16 (u.mask.zeroExtend 16) ++ [octet u.topRank]

/-- READ EVENTS (R172). -/
def State.readEvents (s : State) (p : Port) : Taken := s.answers .ok (eventsReply (s.port p).events)

/-- READ EVENTS (R172). -/
def execReadEvents (p : Port) (s : State) : Host.Outcome State Fault Refusal :=
  .next (s.takeCommand p 0 (·.readEvents p))

/-- ACK EVENTS (R170). -/
def State.ackEvents (s : State) (p : Port) (flags : Word) : Taken :=
  { state := s.modPort p fun ps => { ps with events := ps.events.acknowledge (eventFieldArg flags) }, result := .ok }

/-- ACK EVENTS (R170). -/
def execAckEvents (p : Port) (flags : Word) (s : State) : Host.Outcome State Fault Refusal :=
  .next (s.takeCommand p 2 (·.ackEvents p flags))

/-- SET EVENT MASK (R171). -/
def State.setEventMask (s : State) (p : Port) (mask : Word) : Taken :=
  { state := s.modPort p fun ps => { ps with events := ps.events.setMask (eventFieldArg mask) }, result := .ok }

/-- SET EVENT MASK (R171). -/
def execSetEventMask (p : Port) (mask : Word) (s : State) : Host.Outcome State Fault Refusal :=
  .next (s.takeCommand p 2 (·.setEventMask p mask))

/-- The frames of a port in its build slot and its queue. -/
def PortState.unsentFrames (ps : PortState) : List Frame := ps.slot.toList ++ ps.queue

/-- PORT RESET, build slot and queue (R24, R42): the frames end and their cells are returned; the deference flag
clears. The pool is judged at the end of the reset. -/
def State.resetFrames (s : State) (p : Port) : State :=
  (s.returnFrames p (s.port p).unsentFrames).modPort p fun ps => { ps with slot := none, queue := [], deferred := false }

/-- PORT RESET, window: every entry of p becomes an orphan (R42, R116). -/
def State.orphan (s : State) (p : Port) : State :=
  { s with
    engine :=
      { s.engine with
        window := s.engine.window.map fun e => if e.owner = p then { e with orphan := true } else e } }

/-- PORT RESET, lists (R148): receive records are removed head first, each dropping its reference; marks, mark state,
last refusal and completion list return to their reset values. -/
def State.resetLists (s : State) (p : Port) : State :=
  let s1 := s.modPort p fun ps => { ps with rx := PortState.reset.rx, cpl := PortState.reset.cpl }
  (s.port p).rx.records.foldl (fun t r => t.dropReference p r.frame) s1

/-- PORT RESET, lease: a holding of p ends, else p leaves the waiting list (R155, R156). -/
def State.resetLease (s : State) (p : Port) : State :=
  if s.lease.holder = some p then s.endHolding false
  else { s with lease := { s.lease with waiting := s.lease.waiting.filter (· ≠ p) } }

/-- PORT RESET in one event (R174): the pool is judged once over the whole reset (R20), and the event unit of p is
reset last. -/
def State.portReset (s : State) (p : Port) : Taken :=
  { state :=
      (((((s.resetFrames p).orphan p).resetLists p).resetLease p).settlePool).modPort p fun ps =>
        { ps with events := EventUnit.cleared, prevResult := .ok }
    result := .ok }

/-- PORT RESET (R174). -/
def execPortReset (p : Port) (s : State) : Host.Outcome State Fault Refusal :=
  .next (s.takeCommand p 0 (·.portReset p))

/-- A command byte that names no command (R168). -/
def State.illegal (s : State) : Taken := s.answers .illegal

/-- A command byte that names no command: result ILLEGAL, decided at that byte (R168). A code that names a command is
no such event, and nothing happens (log 21). -/
def execIllegal (p : Port) (code : Byte) (s : State) : Host.Outcome State Fault Refusal :=
  .next (if commandArgs code = none then s.takeCommand p 0 State.illegal else s)

/-- Chip select of p rises (R165, R167, R168); with chip select high there is no rise. -/
def State.releasePort (s : State) (p : Port) : State :=
  if (s.port p).txn = .closed then s else s.modPort p (·.rise)

/-- TRANSACTION END (R167, R168): chip select rises, or falls for the next transaction (R165, log 3). -/
def execTransactionEnd (p : Port) (edge : Edge) (s : State) : Host.Outcome State Fault Refusal :=
  .next
    (match edge with
      | .fall => s.selectPort p
      | .rise => s.releasePort p)

/-- A transaction that a device reset meets: one in progress has ended, and its further bytes are ignored up to the rise
of chip select, with no previous result (R165, R168, R175, log 13). -/
def Txn.afterReset : Txn → Txn
  | .closed => .closed
  | .selected _ => .ignored
  | .opened _ _ => .ignored
  | .ignored => .ignored

/-- RESET is asserted (R175): every state takes its device reset value and the level is held. -/
def State.deviceReset (s : State) : State :=
  { State.reset with
    ports :=
      { p0 := { PortState.reset with txn := s.ports.p0.txn.afterReset }
        p1 := { PortState.reset with txn := s.ports.p1.txn.afterReset }
        p2 := { PortState.reset with txn := s.ports.p2.txn.afterReset }
        p3 := { PortState.reset with txn := s.ports.p3.txn.afterReset } }
    resetAsserted := true, freeTick := s.freeTick, pending := s.pending }

/-- DEVICE RESET (R175). -/
def execDeviceReset (s : State) : Host.Outcome State Fault Refusal := .next s.deviceReset

/-- RESET is released (R175): the part starts with the values the reset has set. -/
def execResetRelease (s : State) : Host.Outcome State Fault Refusal := .next { s with resetAsserted := false }

end Sys2Proof.Machine
end

