-- ==== Sys2Proof/Machine/LeaseUnit.lean ====
section
/-! DEFINITION. The configuration lease, the quotas and the device parameters (spec/09, spec/01 section 1.11). -/

namespace Sys2Proof.Machine

/-- p's position in the waiting list, 1 for the head (R152). -/
def Lease.position (l : Lease) (p : Port) : Nat := l.waiting.findIdx (· == p) + 1

/-- The reply of LEASE ACQUIRE: the holder's number and a position (R152, section 11.4). -/
def leaseReply (holder : Port) (position : Nat) : List Byte := [octet holder.toNat, octet position]

/-- LEASE ACQUIRE: the first case of R152 that applies. -/
def State.acquire (s : State) (p : Port) (wait : Bool) : Taken :=
  match s.lease.holder with
  | none =>
    { state := State.startLeaseTimer { s with lease := { s.lease with holder := some p } }
      result := .ok, reply := leaseReply p 0 }
  | some h =>
    if h = p then { state := s.startLeaseTimer, result := .ok, reply := leaseReply p 0 }
    else if p ∈ s.lease.waiting then
      if wait then s.answers .queued (leaseReply h (s.lease.position p)) else s.answers .held (leaseReply h 0)
    else if wait then
      { state := { s with lease := { s.lease with waiting := s.lease.waiting ++ [p] } }
        result := .queued, reply := leaseReply h (s.lease.waiting.length + 1) }
    else s.answers .held (leaseReply h 0)

/-- LEASE ACQUIRE (R152). -/
def execLeaseAcquire (p : Port) (options : Byte) (s : State) : Host.Outcome State Fault Refusal :=
  .next (s.takeCommand p 1 fun t => t.acquire p (waitOption options))

/-- LEASE RENEW on the holder's port (R153). -/
def State.renewLease (s : State) (p : Port) : Taken := s.ifHolder p { state := s.startLeaseTimer, result := .ok }

/-- LEASE RENEW (R153). -/
def execLeaseRenew (p : Port) (s : State) : Host.Outcome State Fault Refusal :=
  .next (s.takeCommand p 0 (·.renewLease p))

/-- LEASE RELEASE on the holder's port (R154, R155). -/
def State.releaseLease (s : State) (p : Port) : Taken := s.ifHolder p { state := s.endHolding false, result := .ok }

/-- LEASE RELEASE (R154, R155). -/
def execLeaseRelease (p : Port) (s : State) : Host.Outcome State Fault Refusal :=
  .next (s.takeCommand p 0 (·.releaseLease p))

/-- LEASE WITHDRAW (R156): p leaves the waiting list; NOT_FOUND when it does not wait. -/
def State.withdraw (s : State) (p : Port) : Taken :=
  if p ∈ s.lease.waiting then
    { state := { s with lease := { s.lease with waiting := s.lease.waiting.filter (· ≠ p) } }, result := .ok }
  else s.answers .notFound

/-- LEASE WITHDRAW (R156). -/
def execLeaseWithdraw (p : Port) (s : State) : Host.Outcome State Fault Refusal :=
  .next (s.takeCommand p 0 (·.withdraw p))

/-- The sum of the four floors with the floor of q replaced (R17). -/
def State.floorSumWith (s : State) (q : Port) (floor : Nat) : Nat :=
  (Port.all.map fun r => if r = q then floor else (s.port r).floor).sum

/-- SET QUOTA on the holder's port: BAD_ARG, QUOTA_SUM, then both quotas are replaced and the pool is judged (R17). -/
def State.setQuota (s : State) (port floor ceiling : Nat) : Taken :=
  match Port.ofNat? port with
  | none => s.answers .badArg
  | some q =>
    if ¬(floor ≤ Config.maxFloor ∧ floor ≤ ceiling ∧ ceiling ≤ Config.maxCeiling) then s.answers .badArg
    else if Config.maxFloorSum < s.floorSumWith q floor then s.answers .quotaSum
    else
      { state := (s.modPort q fun ps => { ps with floor := floor, ceiling := ceiling }).settlePool, result := .ok }

/-- SET QUOTA (R17). -/
def execSetQuota (p : Port) (port floor : Byte) (ceiling : Word) (s : State) : Host.Outcome State Fault Refusal :=
  .next (s.takeCommand p 4 fun t => t.ifHolder p (t.setQuota port.toNat floor.toNat ceiling.toNat))

/-- What follows a written parameter at once: P14 records the level and raises nothing (R15); P11 may end the halting
of the peer (R113). -/
def State.afterParameter (s : State) (number : Nat) : State :=
  match number with
  | 11 => s.resumePeer
  | 14 => s.recordLevel
  | _ => s

/-- SET PARAMETER on the holder's port: number, then range, then the value at once (R161). -/
def State.setParameter (s : State) (number value : Nat) : Taken :=
  match paramRange number with
  | none => s.answers .badArg
  | some (lo, hi) =>
    if lo ≤ value ∧ value ≤ hi then
      { state := State.afterParameter { s with params := s.params.write number value } number, result := .ok }
    else s.answers .badArg

/-- SET PARAMETER (R161). -/
def execSetParameter (p : Port) (number : Byte) (value : Word) (s : State) : Host.Outcome State Fault Refusal :=
  .next (s.takeCommand p 3 fun t => t.ifHolder p (t.setParameter number.toNat value.toNat))

/-- READ PARAMETER (R163). -/
def State.readParameter (s : State) (number : Nat) : Taken :=
  match s.params.value? number with
  | some v => s.answers .ok (count16 v)
  | none => s.answers .badArg (zeros 2)

/-- READ PARAMETER (R163). -/
def execReadParameter (p : Port) (number : Byte) (s : State) : Host.Outcome State Fault Refusal :=
  .next (s.takeCommand p 1 fun t => t.readParameter number.toNat)

/-- The lease timer expires (R154, R155): nothing while it is stopped (log 4). -/
def State.leaseTimerExpiry (s : State) : State :=
  match s.lease.timer with
  | .running _ => s.endHolding true
  | .stopped => s

/-- LEASE TIMER EXPIRY (R154). -/
def execLeaseTimerExpiry (s : State) : Host.Outcome State Fault Refusal := .next (s.trunkEvent State.leaseTimerExpiry)

end Sys2Proof.Machine
end

