-- ==== Sys2Proof/Machine/Lists.lean ====
section
/-! DEFINITION. The commands on the receive and completion lists (spec/08). -/

namespace Sys2Proof.Machine

/-- SET MARKS (R142): the mark state is kept and no event is raised. -/
def State.setMarks (s : State) (p : Port) (high low : Nat) : Taken :=
  if 1 ≤ high ∧ high ≤ Config.rxPlaces ∧ low < high then
    { state := s.modPort p fun ps => { ps with rx := { ps.rx with high := high, low := low } }, result := .ok }
  else s.answers .badArg

/-- SET MARKS (R142). -/
def execSetMarks (p : Port) (high low : Byte) (s : State) : Host.Outcome State Fault Refusal :=
  .next (s.takeCommand p 2 fun t => t.setMarks p high.toNat low.toNat)

/-- PEEK RECORD (R139). -/
def State.peekRecord (s : State) (p : Port) : Taken :=
  match (s.port p).rx.records with
  | [] => s.answers .empty (zeros 8)
  | r :: _ => s.answers .ok (peekReply r)

/-- PEEK RECORD (R139). -/
def execPeekRecord (p : Port) (s : State) : Host.Outcome State Fault Refusal :=
  .next (s.takeCommand p 0 fun t => t.peekRecord p)

/-- The payload of the frame a record refers to (R23). -/
def State.payloadOf (s : State) (r : RxRecord) : List Byte :=
  match s.frame? r.frame with
  | some f => f.payload
  | none => []

/-- READ FRAME (R140): fixes the record and the offset; EMPTY on an empty list. -/
def State.readFrame (s : State) (p : Port) (offset : Nat) : Taken :=
  match (s.port p).rx.records with
  | [] => { state := s, result := .empty, phase := .read none offset }
  | r :: _ => { state := s, result := .ok, phase := .read (some (s.payloadOf r)) offset }

/-- READ FRAME (R140). -/
def execReadFrame (p : Port) (offset : Word) (s : State) : Host.Outcome State Fault Refusal :=
  .next (s.takeCommand p 2 fun t => t.readFrame p offset.toNat)

/-- One data-phase byte of READ FRAME in a transaction with result r so far (R140): the payload byte at position n, or
0x00 with result SHORT past the end; 0x00 without a record. -/
def PortState.readByte (ps : PortState) (r : Result) (payload : Option (List Byte)) (n : Nat) : PortState :=
  let shown := payload.bind fun l => l[n]?
  { ps with
    txn := .opened (if payload.isSome && shown.isNone then .short else r) (.read payload (n + 1))
    out := ps.out ++ [shown.getD 0#8] }

/-- The marks are examined after a release: RX_LOW when the mark state moves to BELOW (R141). -/
def PortState.examineLow (ps : PortState) : PortState :=
  if ps.rx.markState = .above ∧ ps.rx.records.length ≤ ps.rx.low then
    PortState.raise { ps with rx := { ps.rx with markState := .below } } .rxLow
  else ps

/-- RELEASE RECORD, in the order of R141. -/
def State.releaseRecord (s : State) (p : Port) : Taken :=
  match (s.port p).rx.records with
  | [] => s.answers .empty
  | r :: rest =>
    let s1 := s.modPort p fun ps => { ps with rx := { ps.rx with records := rest } }
    { state := ((s1.dropReference p r.frame).settlePool).modPort p (·.examineLow), result := .ok }

/-- RELEASE RECORD (R141). -/
def execReleaseRecord (p : Port) (s : State) : Host.Outcome State Fault Refusal :=
  .next (s.takeCommand p 0 fun t => t.releaseRecord p)

/-- TAKE COMPLETION (R147). -/
def State.takeCompletion (s : State) (p : Port) : Taken :=
  match (s.port p).cpl.records with
  | [] => s.answers .empty (zeros 4)
  | r :: rest =>
    { state := s.modPort p fun ps => { ps with cpl := { ps.cpl with records := rest } }
      result := .ok, reply := completionReply r }

/-- TAKE COMPLETION (R147). -/
def execTakeCompletion (p : Port) (s : State) : Host.Outcome State Fault Refusal :=
  .next (s.takeCommand p 0 fun t => t.takeCompletion p)

end Sys2Proof.Machine
end

