-- ==== Sys2Proof/Machine/Table.lean ====
section
/-! DEFINITION. The table commands, and the lookup of an accepted frame (spec/07). -/

namespace Sys2Proof.Machine

/-- Replaces a shadow entry, setting its written mark and the dirty flag (R118). -/
def Classifier.edit (c : Classifier) (index : Nat) (e : TableEntry) : Classifier :=
  { c with shadow := c.shadow.set index { entry := e, written := true }, dirty := true }

/-- TABLE WRITE on the holder's port (R127). -/
def State.tableWrite (s : State) (index : Nat) (address mask : Word) (hosts : HostSet) (stop : Bool) : Taken :=
  if index < Config.tableEntries ∧ hosts ≠ 0#4 then
    { state :=
        { s with
          classifier :=
            s.classifier.edit index { inUse := true, address := address, mask := mask, hosts := hosts, stop := stop } }
      result := .ok }
  else s.answers .badArg

/-- TABLE WRITE (R127). -/
def execTableWrite (p : Port) (index : Byte) (address mask : Word) (hosts flags : Byte) (s : State) :
    Host.Outcome State Fault Refusal :=
  .next (s.takeCommand p 7 fun t =>
    t.ifHolder p (t.tableWrite index.toNat address mask (hostSetArg hosts) (stopFlag flags)))

/-- TABLE CLEAR on the holder's port (R128). -/
def State.tableClear (s : State) (index : Nat) : Taken :=
  if index < Config.tableEntries then
    { state := { s with classifier := s.classifier.edit index .unused }, result := .ok }
  else s.answers .badArg

/-- TABLE CLEAR (R128). -/
def execTableClear (p : Port) (index : Byte) (s : State) : Host.Outcome State Fault Refusal :=
  .next (s.takeCommand p 1 fun t => t.ifHolder p (t.tableClear index.toNat))

/-- TABLE READ (R129): BAD_ARG and no entry for an index outside 0 to 31. The counter is that of the moment the command
is taken, the snapshot of R129 and R166: taken before an acceptance that hits the entry it shows the count before that
lookup, taken after it the count after. DESIGN CHOICE (log 28): the third row of R122 says the reverse. -/
def State.tableRead (s : State) (shadow : Bool) (index : Nat) : Taken :=
  if shadow then
    match s.classifier.shadow[index]? with
    | some e => s.answers .ok (tableReply e.entry 0 e.written s.classifier.dirty)
    | none => s.answers .badArg (zeros 8)
  else
    match s.classifier.active[index]? with
    | some e => s.answers .ok (tableReply e.entry e.hits false s.classifier.dirty)
    | none => s.answers .badArg (zeros 8)

/-- TABLE READ (R129). -/
def execTableRead (p : Port) (selector index : Byte) (s : State) : Host.Outcome State Fault Refusal :=
  .next (s.takeCommand p 2 fun t => t.tableRead (selectsShadow selector) index.toNat)

/-- An active entry after a commit: the shadow's values; hits 0 when written, else kept (R130). -/
def committedEntry (a : ActiveEntry) (e : ShadowEntry) : ActiveEntry :=
  { entry := e.entry, hits := if e.written then 0 else a.hits }

/-- The whole shadow table is copied to the active table, and marks and dirty flag clear (R130). -/
def Classifier.commit (c : Classifier) : Classifier :=
  { c with
    active := List.zipWith committedEntry c.active c.shadow
    shadow := c.shadow.map fun e => { e with written := false }
    dirty := false }

/-- TABLE COMMIT on the holder's port: nothing with the dirty flag clear, else the copy and TABLE_SWAPPED (R130). -/
def State.tableCommit (s : State) : State :=
  if s.classifier.dirty then State.raiseAll { s with classifier := s.classifier.commit } .tableSwapped else s

/-- TABLE COMMIT, judged on the lease (R130, R159). -/
def State.commitTables (s : State) (p : Port) : Taken := s.ifHolder p { state := s.tableCommit, result := .ok }

/-- TABLE COMMIT (R130). -/
def execTableCommit (p : Port) (s : State) : Host.Outcome State Fault Refusal :=
  .next (s.takeCommand p 0 (·.commitTables p))

/-- TABLE REVERT, judged on the lease (R131, R159). -/
def State.revertTables (s : State) (p : Port) : Taken :=
  s.ifHolder p { state := { s with classifier := s.classifier.revert }, result := .ok }

/-- TABLE REVERT (R131). -/
def execTableRevert (p : Port) (s : State) : Host.Outcome State Fault Refusal :=
  .next (s.takeCommand p 0 (·.revertTables p))

/-- Whether an entry matches an address: in use, and equal in the bits the mask selects (R119). -/
def TableEntry.hit (e : TableEntry) (address : Word) : Bool :=
  e.inUse && (address &&& e.mask) == (e.address &&& e.mask)

/-- What a scan finds: the entries with their raised counters, the union of the host sets, and the first match. -/
structure Scan where
  entries : List ActiveEntry
  hosts : HostSet
  first : Option Nat
deriving DecidableEq, Repr

/-- The scan of the entries from an index on, in index order; a match with its stop flag set ends it (R119, R120). -/
def scanFrom (address : Word) (i : Nat) : List ActiveEntry → Scan
  | [] => { entries := [], hosts := 0#4, first := none }
  | a :: rest =>
    if a.entry.hit address then
      let raised : ActiveEntry := { a with hits := saturatingSucc a.hits }
      if a.entry.stop then { entries := raised :: rest, hosts := a.entry.hosts, first := some i }
      else
        let r := scanFrom address (i + 1) rest
        { entries := raised :: r.entries, hosts := a.entry.hosts ||| r.hosts, first := some i }
    else
      let r := scanFrom address (i + 1) rest
      { r with entries := a :: r.entries }

/-- An unclaimed frame: its cells are freed, it is counted, and the lease holder is told (R121, R134). -/
def State.unclaimedFrame (s : State) (f : Frame) : State :=
  let s1 := (s.refundAccount none f).settlePool
  let s2 : State := { s1 with classifier := { s1.classifier with unclaimed := saturatingSucc s1.classifier.unclaimed } }
  match s2.lease.holder with
  | some h => s2.raise h .unclaimed
  | none => s2

/-- The lookup of an accepted frame and its delivery, in the accept event (R119 to R121, R123). -/
def State.classify (s : State) (f : Frame) (address : Word) : State :=
  let r := scanFrom address 0 s.classifier.active
  let s1 : State := { s with classifier := { s.classifier with active := r.entries } }
  if r.hosts ≠ 0#4 then s1.deliver f r.hosts (.fromTrunk address) r.first none
  else if s.params.defaultHostSet ≠ 0#4 then s1.deliver f s.params.defaultHostSet (.fromTrunk address) none none
  else s1.unclaimedFrame f

end Sys2Proof.Machine
end

