-- ==== Sys2Proof/Machine/Receive.lean ====
section
/-! DEFINITION. The receive line (spec/04 sections 4.7 and 4.9): markers, octets, the judgement of a frame at its closing
marker, and what a valid frame does in each link state (spec/05, spec/06). -/

namespace Sys2Proof.Machine

/-! ### Octets -/

/-- A clock on RCK: a reported watch runs again (R73), and the moment of a cut-off is past (log 27). -/
def Framer.clockSeen (f : Framer) : Framer :=
  { f with watch := if f.watch = .reported then .running else f.watch, cut := false }

/-- The type a first octet carries in bits 7:4 (R178). -/
def frameType (first : Byte) : Option FrameType :=
  match (first.extractLsb' 4 4).toNat with
  | 1 => some .data
  | 2 => some .ack
  | 3 => some .reject
  | 4 => some .halt
  | 5 => some .go
  | 6 => some .hello
  | _ => none

/-- The type of the frame in reception, once its first octet is in. -/
def Framer.type? (f : Framer) : Option FrameType := f.header.head?.bind frameType

/-- Octet i of the header; 0 for one that has not come. -/
def Framer.headerOctet (f : Framer) (i : Nat) : Byte := f.header.getD i 0#8

/-- The sequence number of a DATA header: octet 1, bits 7:4 (R178). -/
def Framer.seqField (f : Framer) : Seq := (f.headerOctet 1).extractLsb' 4 4

/-- The acknowledgement number: octet 1, bits 3:0 (R178). -/
def Framer.ackField (f : Framer) : Seq := (f.headerOctet 1).extractLsb' 0 4

/-- The class of a DATA header: octet 0, bits 1:0 (R178). -/
def Framer.classField (f : Framer) : Fin 4 := Fin.ofNat 4 ((f.headerOctet 0).extractLsb' 0 2).toNat

/-- The address of a DATA header: octets 2 and 3 (R178). -/
def Framer.addressField (f : Framer) : Word := f.headerOctet 2 ++ f.headerOctet 3

/-- The seen flag of a HELLO: octet 0, bit 0 (R178). -/
def Framer.seenField (f : Framer) : Bool := (f.headerOctet 0).getLsbD 0

/-- The station of a HELLO: octet 2 (R178). -/
def Framer.stationField (f : Framer) : Byte := f.headerOctet 2

/-- An invalid frame is discarded whole: its cells are freed and it is counted (R69). -/
def State.invalidFrame (s : State) : State :=
  let s1 := s.releaseInbound
  { s1 with framer := { s1.framer with invalidCount := saturatingSucc s1.framer.invalidCount } }

/-- A refused inbound claim: the frame is abandoned and its cells are freed (R9); the peer is being halted and a HALT
is owed (R111). -/
def State.abandonFrame (s : State) : State :=
  let s1 := s.releaseInbound
  { s1 with
    framer := { s1.framer with admission := .abandoned }
    engine := { s1.engine with haltingPeer := true, flowOwed := .halt } }

/-- A granted inbound claim of one cell (R8). -/
def State.grantInbound (s : State) : State :=
  let drawn := drawCells s.freeTick 1 s.pool.freeCells
  State.settlePool
    { s with
      pool :=
        { s.pool with
          free := s.pool.free - 1, inbound := s.pool.inbound + 1
          freeCells := drawn.2, inboundCells := s.pool.inboundCells ++ drawn.1 }
      freeTick := s.freeTick + 1 }

/-- Stores a payload octet. -/
def State.keepOctet (s : State) (b : Byte) : State :=
  { s with framer := { s.framer with stored := s.framer.stored ++ [b] } }

/-- A payload octet of an admitted frame is handed over: one that starts a new cell makes an inbound claim, granted when
free less 1 is at least the sum of the four reservations (R8). -/
def State.storeOctet (s : State) (b : Byte) : State :=
  if s.framer.stored.length % Config.cellBytes = 0 then
    if 1 + s.reservations ≤ s.pool.free then s.grantInbound.keepOctet b else s.abandonFrame
  else s.keepOctet b

/-- A frame octet behind the header of a DATA frame enters the hold stage; the older of two leaves it as payload
(R70). -/
def State.holdOctet (s : State) (b : Byte) : State :=
  match s.framer.hold with
  | [x, y] =>
    let s1 : State := { s with framer := { s.framer with hold := [y, b] } }
    if s.framer.admission = .admitted then s1.storeOctet x else s1
  | l => { s with framer := { s.framer with hold := l ++ [b] } }

/-- Admission at the fourth octet of a DATA frame (R70). -/
def State.judgeAdmission (s : State) : State :=
  { s with
    framer :=
      { s.framer with
        admission :=
          if s.link.state = .up ∧ s.framer.seqField = s.engine.vr ∧ ¬s.engine.haltingPeer then .admitted
          else .notAdmitted } }

/-- One frame octet after unescaping: counted, checked and put in the header or the hold stage; the 519th ends the frame
as over-length (R61, R62, R67, R70). -/
def State.frameOctet (s : State) (b : Byte) : State :=
  let f := s.framer
  let n := f.count + 1
  let s1 : State :=
    { s with
      framer :=
        { f with
          count := n, crc := checkOctet f.crc b
          header := if f.header.length < 4 then f.header ++ [b] else f.header } }
  if Config.overLength ≤ n then
    State.invalidFrame { s1 with framer := { s1.framer with rxState := .hunting } }
  else if s1.framer.type? = some .data then
    if n = 4 then s1.judgeAdmission else if 4 < n then s1.holdOctet b else s1
  else s1

/-- One line octet of a frame, the marker apart (R61). -/
def State.frameLineOctet (s : State) (o : Byte) : State :=
  if s.framer.escPending then
    State.frameOctet
      { s with
        framer :=
          { s.framer with
            escPending := false
            badEscape := s.framer.badEscape || (o != 0xE9#8 && o != 0xE8#8) } }
      (o ^^^ Config.escapeFlip)
  else if o = Config.escape then { s with framer := { s.framer with escPending := true } }
  else s.frameOctet o

/-- A frame starts (R59): count 0, hold stage empty, no escape pending, the check register at all ones. -/
def Framer.startReception (f : Framer) : Framer :=
  { f with
    rxState := .receiving, escPending := false, badEscape := false, count := 0, header := [], hold := []
    crc := 0xFFFF#16, admission := .notAdmitted, stored := [] }

/-! ### The closing marker -/

/-- Header octets of a type (R63). -/
def headerLength : FrameType → Nat
  | .data => 4
  | .hello => 3
  | .ack => 2
  | .reject => 2
  | .halt => 2
  | .go => 2

/-- The length test of R67: DATA has at least one payload octet, every other type exactly its header and check. -/
def lengthValid (t : FrameType) (count : Nat) : Bool :=
  if t = .data then 7 ≤ count else count == headerLength t + 2

/-- The framer's own tests of a closed frame (R67). -/
def Framer.valid (f : Framer) : Bool :=
  !f.escPending && !f.badEscape &&
    match f.type? with
    | none => false
    | some t => lengthValid t f.count && f.crc == Config.checkResidue

/-- The frame record of an accepted frame, in the cells of its inbound claims (R21). -/
def Framer.receivedFrame (f : Framer) (cells : List Nat) : Frame :=
  { cells := cells, length := f.stored.length, payload := f.stored, origin := .trunk, state := .delivered, cls := some f.classField
    address := some f.addressField, tag := none, notify := none, refs := none, payer := none }

/-- A stored in-sequence DATA frame is accepted and looked up in the same event (R97, R119). -/
def State.acceptFrame (s : State) : State :=
  let f := s.framer
  let s1 := State.oweAck
    { s with
      framer := { f with stored := [] }
      pool := { s.pool with inboundCells := [] }
      engine := { s.engine with vr := s.engine.vr + 1, rejectOutstanding := false, rejectOwed := false } }
  s1.classify (f.receivedFrame s.pool.inboundCells) f.addressField

/-- A DATA frame that is not stored: what is owed follows from its sequence number (R98). -/
def State.discardData (s : State) : State :=
  let s1 := s.releaseInbound
  let q := s.framer.seqField
  let behind := (s.engine.vr - q).toNat
  if 1 ≤ behind ∧ behind ≤ 7 then s1.oweAck
  else if q ≠ s.engine.vr then s1.oweReject
  else if s.framer.admission = .abandoned then s1
  else if s.engine.haltingPeer then { s1 with engine := { s1.engine with flowOwed := .halt } }
  else s1.oweReject

/-- A valid DATA frame in UP, its acknowledgement number processed (R97, R98). -/
def State.dataInUp (s : State) : State :=
  if s.framer.admission = .admitted then s.acceptFrame else s.discardData

/-- A valid REJECT(n) in UP, its number processed (R106). -/
def State.rejectInUp (s : State) (n : Seq) : State :=
  if s.engine.peerHalted then s
  else if n = s.engine.vs then s
  else if s.engine.round.map (·.origin) = some n then s
  else s.retryFrom n

/-- A valid HALT in UP, its number processed (R108). -/
def State.haltInUp (s : State) : State :=
  { s with
    engine :=
      { s.engine with
        peerHalted := true, round := none, ackTimer := .stopped
        haltTimer := match s.engine.haltTimer with
          | .stopped => .running s.params.tHalt
          | .running t => .running t } }

/-- A valid GO in UP, its number processed (R110). -/
def State.goInUp (s : State) : State :=
  let s1 : State := { s with engine := { s.engine with peerHalted := false, haltTimer := .stopped } }
  if s1.engine.window = [] then s1 else s1.startRound s1.engine.va

/-- A valid frame sets the heard flag (R77). -/
def State.hear (s : State) : State := { s with link := { s.link with heard := true } }

/-- A valid frame other than HELLO in UP: its acknowledgement number is tested, and one that fails makes the frame
invalid (R68, R95); else it is heard, acknowledges, and acts by its type (R85, R96). -/
def State.frameInUp (s : State) (t : FrameType) : State :=
  let n := s.framer.ackField
  if s.engine.acceptable n then
    let s1 := s.hear.acknowledge n
    match t with
    | .data => s1.dataInUp
    | .ack => s1
    | .reject => s1.rejectInUp n
    | .halt => s1.haltInUp
    | .go => s1.goInUp
    | .hello => s1
  else s.invalidFrame

/-- A valid HELLO in UP, in the order of R85. -/
def State.helloInUp (s : State) : State :=
  let station := s.framer.stationField
  if station = s.params.stationOctet then s.leaveUp .looped
  else if ¬s.framer.seenField then s.leaveUp .peerRestart
  else if s.link.peer ≠ some station then
    State.leaveUp { s with link := { s.link with peer := some station } } .peerRestart
  else s.hear

/-- One more confirmation; at N_up the link enters UP (R82). -/
def State.confirm (s : State) : State :=
  let s1 : State := { s with link := { s.link with confCount := s.link.confCount + 1 } }
  if s.params.nUp ≤ s1.link.confCount then s1.enterUp else s1

/-- A valid HELLO in CONFIRMING, in the order of R82. -/
def State.helloInConfirming (s : State) : State :=
  let station := s.framer.stationField
  if station = s.params.stationOctet then s.loopedBack
  else if s.link.peer ≠ some station then
    { s with link := { s.link with peer := some station, confCount := 0, heard := true } }
  else if ¬s.framer.seenField then { s with link := { s.link with confCount := 0, heard := true } }
  else s.hear.confirm

/-- A valid HELLO in SEEKING (R81). -/
def State.helloInSeeking (s : State) : State :=
  let station := s.framer.stationField
  if station = s.params.stationOctet then s.loopedBack else s.enterConfirming station

/-- A valid HELLO is handed on (R72): what it does in each link state; nothing in LOST (R87) and OFF. -/
def State.handOnHello (s : State) : State :=
  match s.link.state with
  | .off => s
  | .seeking => s.helloInSeeking
  | .confirming => s.helloInConfirming
  | .up => s.helloInUp
  | .lost => s

/-- A frame of another type that passes the framer's tests is handed on (R72): discarded in SEEKING, LOST and OFF,
a confirmation in CONFIRMING (R82), acted on in UP. -/
def State.handOnFrame (s : State) (t : FrameType) : State :=
  match s.link.state with
  | .off => s.releaseInbound
  | .seeking => s.releaseInbound
  | .confirming => s.releaseInbound.hear.confirm
  | .up => s.frameInUp t
  | .lost => s.releaseInbound

/-- The closing marker of a frame in reception (R59, R67): the receiver is BETWEEN again; the frame is judged, and an
invalid one discarded and counted. -/
def State.closeFrame (s : State) : State :=
  let valid := s.framer.valid
  let s1 : State := { s with framer := { s.framer with rxState := .between, escPending := false } }
  if valid then
    match s.framer.type? with
    | some .hello => s1.handOnHello
    | some t => s1.handOnFrame t
    | none => s1.invalidFrame
  else s1.invalidFrame

/-- Whether a silent line and the closing marker of a valid HELLO have come together, and the silence was taken first
(R89, log 27). -/
def Framer.helloCutOff (f : Framer) : Bool := f.cut && f.type? == some .hello && f.valid

/-- A marker is found by a hunting receiver, at any bit position (R58), or at the end of a discarded frame (R71,
log 12). -/
def State.markerFound (s : State) : State :=
  match s.framer.rxState with
  | .hunting => { s with framer := { s.framer.clockSeen with rxState := .between } }
  | .discarding => { s with framer := { s.framer.clockSeen with rxState := .between } }
  | _ => s

/-- The closing marker of a frame of the given type: it closes that frame in reception, or a HELLO that came together
with the silence that cut it off (R89, log 27). Of a frame that was cut off or given up before it the marker alone is
seen: it ends DISCARDING and is found by a hunting receiver, and the frame is discarded (R71, R89, log 12). Elsewhere
the event does not occur and nothing happens (log 5). -/
def State.closeOf (s : State) (t : Option FrameType) : State :=
  if (s.framer.rxState = .receiving ∧ s.framer.type? = t) ∨ (t = some .hello ∧ s.framer.helloCutOff) then
    State.closeFrame { s with framer := s.framer.clockSeen }
  else s.markerFound

/-! ### The meanings -/

/-- One line octet in each receiver state (R58, R59, R61, R71). The marker closes a frame in reception, whatever its
type, ends DISCARDING, and is found by a hunting receiver (log 5, log 11, log 12). -/
def State.lineOctet (s : State) (o : Byte) : State :=
  let s1 : State := { s with framer := s.framer.clockSeen }
  match s.framer.rxState with
  | .ignoring => s
  | .hunting => if o = Config.marker then { s1 with framer := { s1.framer with rxState := .between } } else s1
  | .discarding => if o = Config.marker then { s1 with framer := { s1.framer with rxState := .between } } else s1
  | .between =>
    if o = Config.marker then s1
    else State.frameLineOctet { s1 with framer := s1.framer.startReception } o
  | .receiving => if o = Config.marker then s1.closeFrame else s1.frameLineOctet o

/-- RX FRAME OCTET (R61). -/
def execRxFrameOctet (octet : Byte) (s : State) : Host.Outcome State Fault Refusal :=
  .next (s.trunkEvent fun t => t.lineOctet octet)

/-- RX MARKER FOUND (R58). -/
def execRxMarkerFound (s : State) : Host.Outcome State Fault Refusal := .next (s.trunkEvent State.markerFound)

/-- DATA FRAME RECEIVED (R72, R97, R98). -/
def execDataFrameReceived (s : State) : Host.Outcome State Fault Refusal :=
  .next (s.trunkEvent fun t => t.closeOf (some .data))

/-- ACK FRAME RECEIVED (R96). -/
def execAckFrameReceived (s : State) : Host.Outcome State Fault Refusal :=
  .next (s.trunkEvent fun t => t.closeOf (some .ack))

/-- REJECT FRAME RECEIVED (R106). -/
def execRejectFrameReceived (s : State) : Host.Outcome State Fault Refusal :=
  .next (s.trunkEvent fun t => t.closeOf (some .reject))

/-- HALT FRAME RECEIVED (R108). -/
def execHaltFrameReceived (s : State) : Host.Outcome State Fault Refusal :=
  .next (s.trunkEvent fun t => t.closeOf (some .halt))

/-- GO FRAME RECEIVED (R110). -/
def execGoFrameReceived (s : State) : Host.Outcome State Fault Refusal :=
  .next (s.trunkEvent fun t => t.closeOf (some .go))

/-- HELLO FRAME RECEIVED (R81, R82, R85). -/
def execHelloFrameReceived (s : State) : Host.Outcome State Fault Refusal :=
  .next (s.trunkEvent fun t => t.closeOf (some .hello))

/-- UNKNOWN TYPE FRAME END (R67): also a frame that ends before its first frame octet (log 15). -/
def execUnknownTypeFrameEnd (s : State) : Host.Outcome State Fault Refusal :=
  .next (s.trunkEvent fun t => t.closeOf none)

/-- A silent line (R73): the frame in reception is cut off, the receiver hunts, the watch has reported; CONFIRMING
goes back to SEEKING (R83), UP is lost (R85), and the other states take no notice. -/
def State.silence (s : State) : State :=
  if s.framer.watch = .running then
    let s1 := s.cutOff .hunting
    let s2 : State :=
      { s1 with
        framer :=
          { s1.framer with
            rxState := .hunting, watch := .reported, cut := s.framer.rxState == .receiving } }
    match s2.link.state with
    | .confirming => s2.enterSeeking
    | .up => s2.leaveUp .silent
    | .off => s2
    | .seeking => s2
    | .lost => s2
  else s

/-- SILENT LINE (R73). -/
def execSilentLine (s : State) : Host.Outcome State Fault Refusal := .next (s.trunkEvent State.silence)

/-- RCK CLOCK RETURN (R73). -/
def execRckClockReturn (s : State) : Host.Outcome State Fault Refusal :=
  .next (s.trunkEvent fun t => { t with framer := t.framer.clockSeen })

end Sys2Proof.Machine
end

