-- ==== Sys2Proof/Machine/Timers.lean ====
section
/-! DEFINITION. Timer expiries of the link and the transfer engine. A timer that is stopped does not expire (log 4). -/

namespace Sys2Proof.Machine

/-- The HELLO timer expires (R76): a HELLO is due; in SEEKING and CONFIRMING the timer starts again. -/
def State.helloExpiry (s : State) : State :=
  match s.link.helloTimer with
  | .stopped => s
  | .running _ =>
    { s with
      link :=
        { s.link with
          helloDue := true
          helloTimer :=
            if s.link.state = .seeking ∨ s.link.state = .confirming then .running s.params.tHello else .stopped } }

/-- HELLO TIMER EXPIRY (R76). -/
def execHelloTimerExpiry (s : State) : Host.Outcome State Fault Refusal := .next (s.trunkEvent State.helloExpiry)

/-- An interval without a valid frame: the count rises, and at N_loss CONFIRMING goes to SEEKING and UP to LOST
(R77, R83, R85). -/
def State.missedInterval (s : State) : State :=
  let s1 : State := { s with link := { s.link with lossCount := s.link.lossCount + 1 } }
  if s.params.nLoss ≤ s1.link.lossCount then
    match s.link.state with
    | .confirming => s1.enterSeeking
    | .up => s1.leaveUp .helloTimeout
    | .off => s1
    | .seeking => s1
    | .lost => s1
  else s1

/-- The interval timer expires (R77). -/
def State.intervalExpiry (s : State) : State :=
  match s.link.intervalTimer with
  | .stopped => s
  | .running _ =>
    let s1 : State := { s with link := { s.link with intervalTimer := .running s.params.tHello } }
    if s.link.heard then { s1 with link := { s1.link with heard := false, lossCount := 0 } } else s1.missedInterval

/-- INTERVAL TIMER EXPIRY (R77). -/
def execIntervalTimerExpiry (s : State) : Host.Outcome State Fault Refusal :=
  .next (s.trunkEvent State.intervalExpiry)

/-- The hold-off timer expires: LOST becomes SEEKING (R78). -/
def State.holdOffExpiry (s : State) : State :=
  match s.link.holdOffTimer with
  | .stopped => s
  | .running _ => if s.link.state = .lost then s.enterSeeking else s

/-- HOLD OFF TIMER EXPIRY (R78). -/
def execHoldOffTimerExpiry (s : State) : Host.Outcome State Fault Refusal := .next (s.trunkEvent State.holdOffExpiry)

/-- The flush timer expires (R53). -/
def State.flushTimerExpiry (s : State) : State :=
  match s.link.flushTimer with
  | .stopped => s
  | .running _ => s.flushExpiry

/-- FLUSH TIMER EXPIRY (R53). -/
def execFlushTimerExpiry (s : State) : Host.Outcome State Fault Refusal := .next (s.trunkEvent State.flushTimerExpiry)

/-- The ack timer expires (R104): the head entry is to be sent again, or the retry limit is reported. -/
def State.ackTimerExpiry (s : State) : State :=
  match s.engine.ackTimer, s.engine.window with
  | .running _, _ :: _ => s.retryFrom s.engine.va
  | _, _ => s

/-- ACK TIMER EXPIRY (R104). -/
def execAckTimerExpiry (s : State) : Host.Outcome State Fault Refusal := .next (s.trunkEvent State.ackTimerExpiry)

/-- The ack-delay timer expires: an ACK is due (R99). -/
def State.ackDelayExpiry (s : State) : State :=
  match s.engine.ackDelay with
  | .running _ => { s with engine := { s.engine with ackDelay := .expired } }
  | .stopped => s
  | .expired => s

/-- ACK DELAY TIMER EXPIRY (R99). -/
def execAckDelayTimerExpiry (s : State) : Host.Outcome State Fault Refusal :=
  .next (s.trunkEvent State.ackDelayExpiry)

/-- The halt timer expires: UP is lost with HALT_TIMEOUT (R109). -/
def State.haltTimerExpiry (s : State) : State :=
  match s.engine.haltTimer with
  | .running _ => s.leaveUp .haltTimeout
  | .stopped => s

/-- HALT TIMER EXPIRY (R109). -/
def execHaltTimerExpiry (s : State) : Host.Outcome State Fault Refusal := .next (s.trunkEvent State.haltTimerExpiry)

end Sys2Proof.Machine
end

