-- ==== Sys2Proof/Machine/Trunk.lean ====
section
/-! DEFINITION. TRUNK ON, TRUNK OFF and READ LINK (spec/05). -/

namespace Sys2Proof.Machine

/-- TRUNK ON on the holder's port (R79): from OFF the receiver hunts, the watch and the flush timer start, and the link
enters SEEKING; in any other state nothing. -/
def State.trunkOn (s : State) : State :=
  if s.link.state = .off then
    State.startFlushTimer
      (State.enterSeeking { s with framer := { s.framer with rxState := .hunting, watch := .running } })
  else s

/-- TRUNK ON, judged on the lease (R79, R159). -/
def State.turnTrunkOn (s : State) (p : Port) : Taken := s.ifHolder p { state := s.trunkOn, result := .ok }

/-- TRUNK ON (R79). -/
def execTrunkOn (p : Port) (s : State) : Host.Outcome State Fault Refusal :=
  .next (s.takeCommand p 0 (·.turnTrunkOn p))

/-- Every window frame fails with LINK_OFF, in window order (R80, step 2). -/
def State.failWindow (s : State) : State :=
  s.engine.window.foldl State.failEntry { s with engine := { s.engine with window := [] } }

/-- The link, timers and counts of OFF (R80, steps 5, 7 and 8). -/
def State.enterOff (s : State) : State :=
  State.setLinkState
    { s with
      link :=
        { s.link with
          flushTimer := .stopped, flushed := false, helloTimer := .stopped, helloDue := false
          intervalTimer := .stopped, holdOffTimer := .stopped, heard := false, confCount := 0, lossCount := 0 } }
    .off

/-- TRUNK OFF on the holder's port, in the order of R80; nothing when the link is OFF already. -/
def State.trunkOff (s : State) : State :=
  if s.link.state = .off then s
  else
    let s1 := ((s.abortTransmission.failWindow).failWaiting .linkOff).cutOff .ignoring
    State.enterOff
      { s1 with
        framer := { s1.framer with rxState := .ignoring, watch := .stopped, cut := false }
        engine := s1.engine.quiet }

/-- TRUNK OFF, judged on the lease (R80, R159). -/
def State.turnTrunkOff (s : State) (p : Port) : Taken := s.ifHolder p { state := s.trunkOff, result := .ok }

/-- TRUNK OFF (R80). -/
def execTrunkOff (p : Port) (s : State) : Host.Outcome State Fault Refusal :=
  .next (s.takeCommand p 0 (·.turnTrunkOff p))

/-- The peer-station bytes of READ LINK: bit 0 present, then the station (section 11.4). -/
def peerField : Option Byte → List Byte
  | none => [0#8, 0#8]
  | some b => [1#8, b]

/-- The link record (R91, section 11.4). -/
def State.linkReply (s : State) : List Byte :=
  [s.link.state.code, s.link.lastCause.code] ++ peerField s.link.peer ++ [octet s.engine.window.length] ++
    count16 s.framer.invalidCount ++ count16 s.engine.retransCount

/-- READ LINK (R91). -/
def State.readLink (s : State) : Taken := s.answers .ok s.linkReply

/-- READ LINK (R91). -/
def execReadLink (p : Port) (s : State) : Host.Outcome State Fault Refusal :=
  .next (s.takeCommand p 0 State.readLink)

end Sys2Proof.Machine
end

