-- ==== Sys2Proof/Machine/Transaction.lean ====
section
/-! DEFINITION. The bytes of a transaction (spec/10 section 10.1, spec/11 sections 11.1 to 11.3): the command that a code
and its argument bytes spell, the octets of each command, and what one completed byte does. -/

namespace Sys2Proof.Machine

/-- What the command of a code does on p with its argument bytes, which stand in the order of section 11.3, 16-bit values
most significant octet first (R176). A code that names no command is ILLEGAL (R168); so is one that comes with another
number of argument bytes than section 11.2 gives it, which no transaction does. -/
def hostAct (p : Port) (code : Byte) (args : List Byte) : State → Taken :=
  match code.toNat, args with
  | 0x00, [] => State.nop
  | 0x01, [] => (·.readStatus p)
  | 0x02, [] => (·.readEvents p)
  | 0x03, [h, l] => (·.ackEvents p (wordOf h l))
  | 0x04, [h, l] => (·.setEventMask p (wordOf h l))
  | 0x05, [high, low] => (·.setMarks p high.toNat low.toNat)
  | 0x06, [] => State.readLink
  | 0x07, [] => (·.portReset p)
  | 0x10, [h, l] => (·.openFrame p (wordOf h l).toNat)
  | 0x11, [] => (·.appendData p)
  | 0x12, [h, l, cls, tag, options] => (·.commitTrunk p (wordOf h l) cls tag options)
  | 0x13, [targets, cls, tag, options] => (·.commitLocal p targets cls tag options)
  | 0x14, [] => (·.discardFrame p)
  | 0x15, [tag] => (·.cancel p tag)
  | 0x20, [] => (·.peekRecord p)
  | 0x21, [h, l] => (·.readFrame p (wordOf h l).toNat)
  | 0x22, [] => (·.releaseRecord p)
  | 0x23, [] => (·.takeCompletion p)
  | 0x30, [options] => (·.acquire p (waitOption options))
  | 0x31, [] => (·.renewLease p)
  | 0x32, [] => (·.releaseLease p)
  | 0x33, [] => (·.withdraw p)
  | 0x40, [port, floor, h, l] => fun t => t.ifHolder p (t.setQuota port.toNat floor.toNat (wordOf h l).toNat)
  | 0x41, [number, h, l] => fun t => t.ifHolder p (t.setParameter number.toNat (wordOf h l).toNat)
  | 0x42, [number] => (·.readParameter number.toNat)
  | 0x43, [index, ah, al, mh, ml, hosts, flags] => fun t =>
    t.ifHolder p
      (t.tableWrite index.toNat (wordOf ah al) (wordOf mh ml) (hostSetArg hosts) (stopFlag flags))
  | 0x44, [index] => fun t => t.ifHolder p (t.tableClear index.toNat)
  | 0x45, [selector, index] => (·.tableRead (selectsShadow selector) index.toNat)
  | 0x46, [] => (·.commitTables p)
  | 0x47, [] => (·.revertTables p)
  | 0x48, [] => (·.turnTrunkOn p)
  | 0x49, [] => (·.turnTrunkOff p)
  | _, _ => State.illegal

/-- The argument bytes of a command, in the order of section 11.3 (R176). -/
def argumentBytes : Instr → List Byte
  | .ackEvents _ flags => octets16 flags
  | .setEventMask _ mask => octets16 mask
  | .setMarks _ high low => [high, low]
  | .openFrame _ length => octets16 length
  | .commitTrunk _ address cls tag options => octets16 address ++ [cls, tag, options]
  | .commitLocal _ targets cls tag options => [targets, cls, tag, options]
  | .cancel _ tag => [tag]
  | .readFrame _ offset => octets16 offset
  | .leaseAcquire _ options => [options]
  | .setQuota _ port floor ceiling => [port, floor] ++ octets16 ceiling
  | .setParameter _ number value => number :: octets16 value
  | .readParameter _ number => [number]
  | .tableWrite _ index address mask hosts flags =>
    index :: (octets16 address ++ octets16 mask ++ [hosts, flags])
  | .tableClear _ index => [index]
  | .tableRead _ selector index => [selector, index]
  | _ => []

/-- The bytes that a host shifts in for a command: its code and its argument bytes (R166, sections 11.2, 11.3), or a
code that names no command (R168). None for a row that is no command of a host. -/
def hostBytes : Instr → Option (List Byte)
  | .illegal _ code => if commandArgs code = none then some [code] else none
  | c => (commandByte c).map fun code => code :: argumentBytes c

/-- A byte completes in a transaction whose command is not taken, where the bytes in got have completed before it (R166,
R168): the command is taken at its last argument byte, or at a command byte without arguments; a code that names no
command is decided at once. -/
def State.commandByteIn (s : State) (p : Port) (got : List Byte) (b : Byte) : State :=
  match got ++ [b] with
  | [] => s
  | code :: args =>
    match commandArgs code with
    | none => s.takeBytes p 1 State.illegal
    | some n =>
      if args.length = n then s.takeBytes p 1 (hostAct p code args)
      else s.modPort p fun ps => { ps.shiftOut 1 with txn := .selected (code :: args) }

/-- One byte completes on p, b shifted in: a byte of the command, a data-phase byte, or a byte whose data in is ignored.
While no transaction is open, or one that is ignored, there is no byte (R26, R140, R165, R166, R177). -/
def State.byteIn (s : State) (p : Port) (b : Byte) : State :=
  match (s.port p).txn with
  | .closed => s
  | .selected got => s.commandByteIn p got b
  | .opened r .append => s.modPort p fun ps => (ps.shiftOut 1).appendByte r b
  | .opened r (.read payload n) => s.modPort p (·.readByte r payload n)
  | .opened _ .none => s.modPort p (·.shiftOut 1)
  | .ignored => s

/-- APPEND DATA BYTE (R26), and every other byte with the data that was shifted in (R165, R166, R177, log 1). -/
def execAppendDataByte (p : Port) (b : Byte) (s : State) : Host.Outcome State Fault Refusal :=
  .next (if s.resetAsserted then s else s.byteIn p b)

/-- One byte completes on p whose data in does not matter: a data-phase byte of READ FRAME (R140), or a byte behind a
taken command (R177). Where the data in matters the row does not say it, and nothing happens (log 19). -/
def State.byteOut (s : State) (p : Port) : State :=
  match (s.port p).txn with
  | .opened r (.read payload n) => s.modPort p (·.readByte r payload n)
  | .opened _ .none => s.modPort p (·.shiftOut 1)
  | .opened _ .append => s
  | .closed => s
  | .selected _ => s
  | .ignored => s

/-- READ FRAME BYTE (R140), and every other byte whose data in is ignored (R177). -/
def execReadFrameByte (p : Port) (s : State) : Host.Outcome State Fault Refusal :=
  .next (if s.resetAsserted then s else s.byteOut p)

end Sys2Proof.Machine
end

