-- ==== Sys2Proof/Machine/Transmit.lean ====
section
/-! DEFINITION. The transmit line (spec/03 section 3.2, spec/04 section 4.5, spec/06 section 6.4): the arbiter, the
transmitter ranking, the frames it starts, and the end of a transmission. A start that is not owed or not at its turn
does not happen (log 17). -/

namespace Sys2Proof.Machine

/-! ### Frames on the line (R63, R178) -/

/-- A DATA frame: class, sequence and acknowledgement number, address, payload, check. -/
def dataOctets (f : Frame) (seq ack : Seq) : List Byte :=
  withCheck
    ([(0x1#4 ++ BitVec.ofNat 4 f.classNo.val : Byte), (seq ++ ack : Byte)] ++ octets16 (f.address.getD 0) ++ f.payload)

/-- An ACK, REJECT, HALT or GO: type and acknowledgement number, check. -/
def shortOctets (code : BitVec 4) (ack : Seq) : List Byte :=
  withCheck [(code ++ 0x0#4 : Byte), (0x0#4 ++ ack : Byte)]

/-- A HELLO: seen flag, a zero octet, station, check. -/
def helloOctets (seen : Bool) (station : Byte) : List Byte :=
  withCheck [if seen then 0x61#8 else 0x60#8, 0#8, station]

/-! ### The ranking (R101) -/

/-- The transmitter is at a frame boundary (R45, R64). -/
def State.atBoundary (s : State) : Bool := s.framer.tx == .idle

/-- Nothing of rank 1 or 2 is owed. -/
def Engine.noFlowOrReject (e : Engine) : Bool := e.flowOwed == .none && !e.rejectOwed

/-- Some transmit queue is non-empty (R45). -/
def State.someQueued (s : State) : Bool := Port.all.any fun p => !(s.port p).queue.isEmpty

/-- The conditions of an arbitration (R45). -/
def State.mayArbitrate (s : State) : Bool :=
  s.atBoundary && s.link.state == .up && !s.engine.peerHalted && s.engine.window.length < s.params.w &&
    s.engine.round.isNone && s.engine.noFlowOrReject && s.someQueued

/-- Rank 3: a round in progress with a frame to send and nothing of higher rank (R101, R105). -/
def State.mayResend (s : State) : Bool :=
  s.atBoundary && s.link.state == .up && !s.engine.peerHalted && s.engine.round.isSome &&
    !s.engine.window.isEmpty && s.engine.noFlowOrReject

/-- Rank 5: an ACK due, and nothing of higher rank (R99, R101). -/
def State.mayAck (s : State) : Bool :=
  s.atBoundary && s.link.state == .up && s.engine.noFlowOrReject && !s.mayResend && !s.mayArbitrate &&
    s.engine.ackOwed && s.engine.ackDelay == .expired

/-- A due HELLO that may start: alone in SEEKING and CONFIRMING (R64), last in UP (R101). -/
def State.mayHello (s : State) : Bool :=
  s.atBoundary && s.link.helloDue &&
    match s.link.state with
    | .seeking => true
    | .confirming => true
    | .up => s.engine.noFlowOrReject && !s.mayResend && !s.mayArbitrate && !s.mayAck
    | .off => false
    | .lost => false

/-! ### The arbiter -/

/-- The effective class of a port's head frame, none for an empty queue (R46). -/
def State.effectiveClass (s : State) (p : Port) : Option Nat :=
  match (s.port p).queue with
  | [] => none
  | f :: _ => some (f.classNo.val + (if (s.port p).deferred then 1 else 0))

/-- Whether p is a tied candidate: no candidate has a lower effective class (R46). -/
def State.isTied (s : State) (p : Port) : Bool :=
  match s.effectiveClass p with
  | none => false
  | some c => Port.all.all fun q =>
      match s.effectiveClass q with
      | none => true
      | some d => c ≤ d

/-- The winner: the first tied candidate from the port after the pointer (R46). -/
def State.winner (s : State) : Option Port := s.pointer.searchFrom.find? s.isTied

/-- Whether a port other than w is a candidate. -/
def State.contested (s : State) (w : Port) : Bool := Port.all.any fun q => q != w && !(s.port q).queue.isEmpty

/-- The deference flags after an arbitration that w has won: set on w if it was contested, clear on the others
(R47). -/
def State.deferTo (s : State) (w : Port) : State :=
  { s with
    ports := (s.ports.map fun ps => { ps with deferred := false }).set w
      { s.ports.get w with deferred := s.contested w }
    pointer := w }

/-- The ack timer after a frame joins the window: started when the window was empty (R103). -/
def State.ackTimerOnEntry (s : State) : Timer :=
  if s.engine.window = [] then .running s.params.tAck else s.engine.ackTimer

/-- The winner's head frame enters the window under V(S) and its transmission starts (R48, R102). -/
def State.admitToWindow (s : State) (w : Port) : State :=
  match (s.port w).queue with
  | [] => s
  | f :: rest =>
    let e : WindowEntry :=
      { seq := s.engine.vs, frame := { f with state := .inWindow }, owner := w, retry := 0, orphan := false
        onLine := true }
    let s1 := s.modPort w fun ps => { ps with queue := rest }
    State.startFrame
      { s1 with
        engine :=
          { s1.engine with
            window := s1.engine.window ++ [e], vs := s1.engine.vs + 1, ackTimer := s.ackTimerOnEntry } }
      .data (dataOctets f s.engine.vs s.engine.vr)

/-- An arbitration (R45 to R48). -/
def State.arbitrate (s : State) : State :=
  if s.mayArbitrate then
    match s.winner with
    | some w => (s.deferTo w).admitToWindow w
    | none => s
  else s

/-- ARBITRATION (R46). -/
def execArbitration (s : State) : Host.Outcome State Fault Refusal := .next (s.trunkEvent State.arbitrate)

/-! ### The round -/

/-- The entry a round sends next: the one with its next position's number, or the head when that one has been
acknowledged (R105). -/
def Engine.roundEntry (e : Engine) (r : Round) : Option WindowEntry :=
  match e.window.find? (·.seq == r.next) with
  | some x => some x
  | none => e.window.head?

/-- The round after it has sent the entry with number n: ended by its last entry, else moved on (R105). -/
def Engine.roundAfter (e : Engine) (r : Round) (n : Seq) : Option Round :=
  if n = e.vs - 1 then none else some { r with next := n + 1 }

/-- Sends an entry again: its on-line flag, the retransmission count, the round (R102). -/
def State.resendEntry (s : State) (r : Round) (x : WindowEntry) : State :=
  State.startFrame
    { s with
      engine :=
        { s.engine with
          window := s.engine.window.map fun y => if y.seq = x.seq then { y with onLine := true } else y
          retransCount := saturatingSucc s.engine.retransCount
          round := s.engine.roundAfter r x.seq } }
    .data (dataOctets x.frame x.seq s.engine.vr)

/-- The next DATA frame of a round is started (R105). -/
def State.roundSend (s : State) : State :=
  if s.mayResend then
    match s.engine.round with
    | none => s
    | some r =>
      match s.engine.roundEntry r with
      | some x => s.resendEntry r x
      | none => s
  else s

/-- ROUND DATA SEND (R105). -/
def execRoundDataSend (s : State) : Host.Outcome State Fault Refusal := .next (s.trunkEvent State.roundSend)

/-! ### The short frames -/

/-- An owed REJECT is started (R100, R102). -/
def State.rejectSend (s : State) : State :=
  if s.atBoundary ∧ s.link.state = .up ∧ s.engine.flowOwed = .none ∧ s.engine.rejectOwed then
    State.startFrame { s with engine := { s.engine with rejectOwed := false } } .reject
      (shortOctets 0x3#4 s.engine.vr)
  else s

/-- REJECT SEND (R100). -/
def execRejectSend (s : State) : Host.Outcome State Fault Refusal := .next (s.trunkEvent State.rejectSend)

/-- An owed flow frame is started: HALT or GO (R102). -/
def State.flowSend (s : State) (which : FlowFrame) (kind : FrameType) (code : BitVec 4) : State :=
  if s.atBoundary ∧ s.link.state = .up ∧ s.engine.flowOwed = which then
    State.startFrame { s with engine := { s.engine with flowOwed := .none } } kind (shortOctets code s.engine.vr)
  else s

/-- HALT SEND (R102). -/
def execHaltSend (s : State) : Host.Outcome State Fault Refusal :=
  .next (s.trunkEvent fun t => t.flowSend .halt .halt 0x4#4)

/-- GO SEND (R102). -/
def execGoSend (s : State) : Host.Outcome State Fault Refusal :=
  .next (s.trunkEvent fun t => t.flowSend .go .go 0x5#4)

/-- A due ACK is started (R99). -/
def State.ackSend (s : State) : State :=
  if s.mayAck then s.startFrame .ack (shortOctets 0x2#4 s.engine.vr) else s

/-- ACK SEND (R99). -/
def execAckSend (s : State) : Host.Outcome State Fault Refusal := .next (s.trunkEvent State.ackSend)

/-- A due HELLO is started, with seen flag 0 in SEEKING and 1 in CONFIRMING and UP, and the station as P0 stands
(R64, R65, R76). -/
def State.helloSend (s : State) : State :=
  if s.mayHello then
    State.startFrame { s with link := { s.link with helloDue := false } } .hello
      (helloOctets (s.link.state != .seeking) s.params.stationOctet)
  else s

/-- HELLO SEND (R76). -/
def execHelloSend (s : State) : Host.Outcome State Fault Refusal := .next (s.trunkEvent State.helloSend)

/-! ### The end of a transmission -/

/-- In UP the HELLO timer starts again at the end of every transmission (R76). -/
def State.restartIdleTimer (s : State) : State :=
  if s.link.state = .up then { s with link := { s.link with helloTimer := .running s.params.tHello } } else s

/-- The last check octet has been sent; the closing marker follows (R65). -/
def State.transmissionEnd (s : State) : State :=
  match s.framer.tx with
  | .idle => s
  | .sending _ => (s.endTransmission [Config.marker]).restartIdleTimer

/-- TRANSMISSION END (R65). -/
def execTransmissionEnd (s : State) : Host.Outcome State Fault Refusal := .next (s.trunkEvent State.transmissionEnd)

end Sys2Proof.Machine
end

