-- ==== Sys2Proof/Machine/Dispatch.lean ====
section
/-! DEFINITION. One arm for each command and event: the direct call of its meaning. -/

namespace Sys2Proof.Machine

def exec (i : Instr) (s : State) : Host.Outcome State Fault Refusal :=
  match i with
  | .nop p => Sys2Proof.Machine.execNop p s
  | .readStatus p => Sys2Proof.Machine.execReadStatus p s
  | .readEvents p => Sys2Proof.Machine.execReadEvents p s
  | .ackEvents p flags => Sys2Proof.Machine.execAckEvents p flags s
  | .setEventMask p mask => Sys2Proof.Machine.execSetEventMask p mask s
  | .setMarks p high low => Sys2Proof.Machine.execSetMarks p high low s
  | .readLink p => Sys2Proof.Machine.execReadLink p s
  | .portReset p => Sys2Proof.Machine.execPortReset p s
  | .openFrame p length => Sys2Proof.Machine.execOpenFrame p length s
  | .appendData p => Sys2Proof.Machine.execAppendData p s
  | .appendDataByte p b => Sys2Proof.Machine.execAppendDataByte p b s
  | .commitTrunk p address cls tag options => Sys2Proof.Machine.execCommitTrunk p address cls tag options s
  | .commitLocal p targets cls tag options => Sys2Proof.Machine.execCommitLocal p targets cls tag options s
  | .discardFrame p => Sys2Proof.Machine.execDiscardFrame p s
  | .cancel p tag => Sys2Proof.Machine.execCancel p tag s
  | .peekRecord p => Sys2Proof.Machine.execPeekRecord p s
  | .readFrame p offset => Sys2Proof.Machine.execReadFrame p offset s
  | .readFrameByte p => Sys2Proof.Machine.execReadFrameByte p s
  | .releaseRecord p => Sys2Proof.Machine.execReleaseRecord p s
  | .takeCompletion p => Sys2Proof.Machine.execTakeCompletion p s
  | .leaseAcquire p options => Sys2Proof.Machine.execLeaseAcquire p options s
  | .leaseRenew p => Sys2Proof.Machine.execLeaseRenew p s
  | .leaseRelease p => Sys2Proof.Machine.execLeaseRelease p s
  | .leaseWithdraw p => Sys2Proof.Machine.execLeaseWithdraw p s
  | .setQuota p port floor ceiling => Sys2Proof.Machine.execSetQuota p port floor ceiling s
  | .setParameter p number value => Sys2Proof.Machine.execSetParameter p number value s
  | .readParameter p number => Sys2Proof.Machine.execReadParameter p number s
  | .tableWrite p index address mask hosts flags => Sys2Proof.Machine.execTableWrite p index address mask hosts flags s
  | .tableClear p index => Sys2Proof.Machine.execTableClear p index s
  | .tableRead p selector index => Sys2Proof.Machine.execTableRead p selector index s
  | .tableCommit p => Sys2Proof.Machine.execTableCommit p s
  | .tableRevert p => Sys2Proof.Machine.execTableRevert p s
  | .trunkOn p => Sys2Proof.Machine.execTrunkOn p s
  | .trunkOff p => Sys2Proof.Machine.execTrunkOff p s
  | .illegal p code => Sys2Proof.Machine.execIllegal p code s
  | .transactionEnd p edge => Sys2Proof.Machine.execTransactionEnd p edge s
  | .deviceReset => Sys2Proof.Machine.execDeviceReset s
  | .rxMarkerFound => Sys2Proof.Machine.execRxMarkerFound s
  | .rxFrameOctet octet => Sys2Proof.Machine.execRxFrameOctet octet s
  | .dataFrameReceived => Sys2Proof.Machine.execDataFrameReceived s
  | .ackFrameReceived => Sys2Proof.Machine.execAckFrameReceived s
  | .rejectFrameReceived => Sys2Proof.Machine.execRejectFrameReceived s
  | .haltFrameReceived => Sys2Proof.Machine.execHaltFrameReceived s
  | .goFrameReceived => Sys2Proof.Machine.execGoFrameReceived s
  | .helloFrameReceived => Sys2Proof.Machine.execHelloFrameReceived s
  | .arbitration => Sys2Proof.Machine.execArbitration s
  | .roundDataSend => Sys2Proof.Machine.execRoundDataSend s
  | .rejectSend => Sys2Proof.Machine.execRejectSend s
  | .haltSend => Sys2Proof.Machine.execHaltSend s
  | .goSend => Sys2Proof.Machine.execGoSend s
  | .ackSend => Sys2Proof.Machine.execAckSend s
  | .helloSend => Sys2Proof.Machine.execHelloSend s
  | .transmissionEnd => Sys2Proof.Machine.execTransmissionEnd s
  | .helloTimerExpiry => Sys2Proof.Machine.execHelloTimerExpiry s
  | .intervalTimerExpiry => Sys2Proof.Machine.execIntervalTimerExpiry s
  | .holdOffTimerExpiry => Sys2Proof.Machine.execHoldOffTimerExpiry s
  | .flushTimerExpiry => Sys2Proof.Machine.execFlushTimerExpiry s
  | .ackTimerExpiry => Sys2Proof.Machine.execAckTimerExpiry s
  | .ackDelayTimerExpiry => Sys2Proof.Machine.execAckDelayTimerExpiry s
  | .haltTimerExpiry => Sys2Proof.Machine.execHaltTimerExpiry s
  | .leaseTimerExpiry => Sys2Proof.Machine.execLeaseTimerExpiry s
  | .silentLine => Sys2Proof.Machine.execSilentLine s
  | .rckClockReturn => Sys2Proof.Machine.execRckClockReturn s
  | .resetRelease => Sys2Proof.Machine.execResetRelease s
  | .unknownTypeFrameEnd => Sys2Proof.Machine.execUnknownTypeFrameEnd s

end Sys2Proof.Machine
end

