-- ==== Sys2Proof/Safety.lean ====
section
/-! DEFINITION. What a safe state is: the laws that the chapters state for every state of the part, as predicates on
State. Each names the rule that states it. -/

namespace Sys2Proof.Machine

/-- The interrupt line is asserted exactly while a flag is set and unmasked (R171). -/
def State.InterruptLaw (s : State) : Prop := ∀ p, (s.port p).events.irq = (s.port p).events.pending

/-- The law on the lease (R150, R151): the holder does not wait, no port waits twice, nobody waits for a FREE lease, and
the lease timer runs exactly while the lease is held. -/
def State.LeaseLaw (s : State) : Prop :=
  s.lease.waiting.Nodup ∧ (∀ h, s.lease.holder = some h → h ∉ s.lease.waiting) ∧
    (s.lease.holder = none → s.lease.waiting = []) ∧ (s.lease.holder = none ↔ s.lease.timer = .stopped)

/-- Every parameter lies in its range (R160, R161). -/
def State.ParameterLaw (s : State) : Prop :=
  ∀ n lo hi v, paramRange n = some (lo, hi) → s.params.value? n = some v → lo ≤ v ∧ v ≤ hi

/-- The quotas (R5, R17): floors at most 128 and at most their ceiling, ceilings at most 512, floors summing to at most
256: the pool's third law. -/
def State.QuotaLaw (s : State) : Prop :=
  (∀ p, (s.port p).floor ≤ Config.maxFloor ∧ (s.port p).floor ≤ (s.port p).ceiling ∧
    (s.port p).ceiling ≤ Config.maxCeiling) ∧
    (Port.all.map fun p => (s.port p).floor).sum ≤ Config.maxFloorSum

/-- An entry in use has a host set, an entry not in use is empty (R117). -/
def TableEntry.Sound (e : TableEntry) : Prop := (e.inUse → e.hosts ≠ 0#4) ∧ (e.inUse = false → e = .unused)

/-- The address tables (R117, R118, R130): 32 sound entries each; a shadow entry without a written mark equals the active
entry of its index; with the dirty flag clear the shadow equals the active table and no entry is marked. -/
def State.TableLaw (s : State) : Prop :=
  s.classifier.active.length = Config.tableEntries ∧ s.classifier.shadow.length = Config.tableEntries ∧
    (∀ a ∈ s.classifier.active, a.entry.Sound ∧ (a.entry.inUse = false → a.hits = 0) ∧
      a.hits ≤ Config.counterMax) ∧
    (∀ e ∈ s.classifier.shadow, e.entry.Sound) ∧
    (∀ x ∈ s.classifier.active.zip s.classifier.shadow, x.2.written = false → x.2.entry = x.1.entry) ∧
    (s.classifier.dirty = false →
      s.classifier.shadow.map (·.entry) = s.classifier.active.map (·.entry) ∧
        ∀ e ∈ s.classifier.shadow, e.written = false)

/-- The marks of a receive list lie in their ranges and the list holds at most 32 records (R136, R142). -/
def State.ReceiveListLaw (s : State) : Prop :=
  ∀ p, (s.port p).rx.records.length ≤ Config.rxPlaces ∧ 1 ≤ (s.port p).rx.high ∧
    (s.port p).rx.high ≤ Config.rxPlaces ∧ (s.port p).rx.low < (s.port p).rx.high

/-- The statistics counters stay in 16 bits (spec/00 section 6.2). -/
def State.CounterLaw (s : State) : Prop :=
  s.framer.invalidCount ≤ Config.counterMax ∧ s.engine.retransCount ≤ Config.counterMax ∧
    s.classifier.unclaimed ≤ Config.counterMax

/-- The window numbers follow V(A) up to V(S), modulo 16 (R93). -/
def consecutiveFrom : Seq → List WindowEntry → Seq → Prop
  | n, [], last => n = last
  | n, e :: rest, last => e.seq = n ∧ consecutiveFrom (n + 1) rest last

/-- The law on the window (R93, R84): at most 7 entries, consecutive numbers ending at V(S), and empty whenever the link
is not UP. -/
def State.WindowLaw (s : State) : Prop :=
  s.engine.window.length ≤ 7 ∧ consecutiveFrom s.engine.va s.engine.window s.engine.vs ∧
    (s.link.state ≠ .up → s.engine.window = [])

/-- Outside UP the transfer engine owes nothing, has no flag set and runs no timer (R114). -/
def State.EngineQuietLaw (s : State) : Prop := s.link.state ≠ .up → s.engine = s.engine.quiet

/-- Which timers of the link run in which state (spec/05 section 5.1, R52): the flush timer only while the trunk is on
and the link is not UP. -/
def State.LinkTimerLaw (s : State) : Prop :=
  (s.link.state = .off → s.link.helloTimer = .stopped ∧ s.link.helloDue = false) ∧
    (s.link.state = .lost → s.link.helloTimer = .stopped ∧ s.link.helloDue = false) ∧
    (s.link.intervalTimer ≠ .stopped ↔ s.link.state = .confirming ∨ s.link.state = .up) ∧
    (s.link.holdOffTimer ≠ .stopped ↔ s.link.state = .lost) ∧
    (s.link.flushTimer ≠ .stopped → s.link.state ≠ .off ∧ s.link.state ≠ .up) ∧
    (s.link.flushed → s.link.state ≠ .off ∧ s.link.state ≠ .up)

/-- The receiver ignores the line and the watch is stopped exactly while the link is OFF (R58, R73); a receiver that a
silent line has cut off hunts (R73, log 27). -/
def State.ReceiverLaw (s : State) : Prop :=
  (s.framer.rxState = .ignoring ↔ s.link.state = .off) ∧ (s.framer.watch = .stopped ↔ s.link.state = .off) ∧
    (s.framer.cut = true → s.framer.rxState = .hunting)

/-! ### The accounts of the pool -/

/-- The frames of q in a list of window entries. -/
def entryFrames (w : List WindowEntry) (q : Port) : List Frame := (w.filter (·.owner == q)).map (·.frame)

/-- The number of cells of the entries of q in a list of window entries. -/
def entryCells (w : List WindowEntry) (q : Port) : Nat := cellsOf (entryFrames w q)

/-- The frame of q that has ended but is still on the line, if there is one (R4). -/
def State.lineFrames (s : State) (q : Port) : List Frame :=
  match s.framer.tx with
  | .idle => []
  | .sending t =>
    match t.held with
    | some (y, f) => if y = q then [f] else []
    | none => []

/-- The frames that p pays for, wherever they are held (R3). -/
def State.paidFrames (s : State) (p : Port) : List Frame :=
  (s.port p).unsentFrames ++ entryFrames s.engine.window p ++ s.lineFrames p ++
    (s.frames.filter (·.2.payer == some p)).map (·.2)

/-- Each port's holdings are the cells of the frames it pays for, and the inbound account those of the frame in
reception (R3). -/
def State.AccountLaw (s : State) : Prop :=
  (∀ p, cellsOf (s.paidFrames p) = (s.port p).holdings) ∧ s.pool.inbound = cellsFor s.framer.stored.length

/-- The cells themselves (R1, R2, R21): each of the 512 is free, in the inbound account or in the list of exactly one
frame, and the counts say how many. -/
def State.CellLaw (s : State) : Prop :=
  s.pool.freeCells.length = s.pool.free ∧ s.pool.inboundCells.length = s.pool.inbound ∧
    (∀ p, ∀ f ∈ s.paidFrames p, f.cells.length = f.cellCount) ∧
    (s.pool.freeCells ++ s.pool.inboundCells ++ (Port.all.flatMap s.paidFrames).flatMap Frame.cells).Perm
      (List.range Config.poolCells)

/-- The pool's first law (R1): free plus inbound plus the four holdings is 512. -/
def State.PoolLaw (s : State) : Prop :=
  s.pool.free + s.pool.inbound + (Port.all.map fun p => (s.port p).holdings).sum = Config.poolCells

/-- The records of port p that refer to frame n. -/
def State.recordsOf (s : State) (p : Port) (n : Nat) : Nat :=
  ((s.port p).rx.records.filter (·.frame == n)).length

/-- The law on references (R136, R14): each delivered frame's count is the number of records that refer to it, no list
holds two, its payer holds one, and every record refers to a frame of the store. -/
def State.ReferenceLaw (s : State) : Prop :=
  (s.frames.map (·.1)).Nodup ∧
    (∀ x ∈ s.frames, ∃ q, x.2.payer = some q ∧ s.recordsOf q x.1 = 1 ∧
      x.2.refs = some ((Port.all.map fun p => s.recordsOf p x.1).sum)) ∧
    (∀ p n, s.recordsOf p n ≤ 1) ∧
    (∀ p, ∀ r ∈ (s.port p).rx.records, (s.frame? r.frame).isSome)

/-- The frames of p that hold a reserved completion slot (R29). -/
def State.slotsOwed (s : State) (p : Port) : Nat :=
  ((s.port p).queue.filter Frame.notifies).length +
    (s.engine.window.filter fun e => e.owner == p && !e.orphan && e.frame.notifies).length

/-- The law on completion slots and transmit frames (R29, R41): records plus reserved slots at most 16, one reserved
slot for each frame that is owed one, and at most 16 transmit frames. -/
def State.CompletionLaw (s : State) : Prop :=
  ∀ p, (s.port p).completions ≤ Config.completionPlaces ∧ (s.port p).cpl.reserved = s.slotsOwed p ∧
    s.transmitCount p ≤ Config.transmitLimit

/-- The recorded level of POOL_LOW is that of shared free against P14 (R15). -/
def State.LevelLaw (s : State) : Prop := s.pool.level = .below ↔ s.sharedFree < s.params.poolLow

/-! ### The frame on the line and the frame in reception -/

/-- The law on the on-line flag (R94): at most one entry has it set, and then a transmission is in progress whose frame
has not ended. -/
def State.OnLineLaw (s : State) : Prop :=
  (s.engine.window.filter (·.onLine)).length ≤ 1 ∧
    (s.engine.window.any (·.onLine) = true →
      match s.framer.tx with
      | .sending t => t.held = none
      | .idle => False)

/-- The law on storage (R8, R10, R70, R71): what is stored belongs to an admitted frame in reception; an admitted frame
in reception is a DATA frame, and it is there only while the link is UP and the peer is not being halted; before its
fourth octet a frame in reception is not admitted. -/
def State.ReceptionLaw (s : State) : Prop :=
  (s.framer.stored ≠ [] → s.framer.rxState = .receiving ∧ s.framer.admission = .admitted) ∧
    (s.framer.rxState = .receiving → s.framer.admission = .admitted →
      s.framer.type? = some .data ∧ s.link.state = .up ∧ s.engine.haltingPeer = false) ∧
    (s.framer.rxState = .receiving → s.framer.count < 4 → s.framer.admission = .notAdmitted)

/-! ### The invariants of the claims -/

/-- The settings that hosts share or own stay in their ranges (R5, R17, R136, R142, R160). -/
def State.SettingsLaws (s : State) : Prop := s.ParameterLaw ∧ s.QuotaLaw ∧ s.ReceiveListLaw

/-- What the link, its timers, the receiver and the transfer engine agree on (R52, R58, R70, R73, R76 to R78, R93,
R114). W is at most 7 by the law on parameters. -/
def State.LinkLaws (s : State) : Prop :=
  s.ParameterLaw ∧ s.LinkTimerLaw ∧ s.ReceiverLaw ∧ s.WindowLaw ∧ s.EngineQuietLaw ∧ s.ReceptionLaw

/-- The accounts of the part (R1 to R3, R10, R14, R21, R29, R41, R136): free, inbound and holdings make 512, every cell
is in one place, every port pays for exactly the frames that are its own, every reference and every completion slot is
counted. The laws on the window, the line and the frame in reception are what they rest on. -/
def State.AccountLaws (s : State) : Prop :=
  s.PoolLaw ∧ s.AccountLaw ∧ s.CellLaw ∧ s.ReferenceLaw ∧ s.CompletionLaw ∧ s.OnLineLaw ∧ s.ReceptionLaw ∧ s.WindowLaw ∧
    s.ParameterLaw

/-! ### The terms in which the claims are stated -/

/-- Whether a port can take a command next: chip select is high, or low with no command taken yet (R165). -/
def Txn.takes : Txn → Bool
  | .closed => true
  | .selected _ => true
  | .opened _ _ => false
  | .ignored => false

/-- Port p takes a command: RESET is released, and no command of its transaction is taken (R165). -/
abbrev State.Ready (s : State) (p : Port) : Prop := s.resetAsserted = false ∧ (s.port p).txn.takes = true

/-- Port p with its chip select low: as it is, or after a fall with the status byte of s and the previous result as the
first bytes out (R165, R166, R169). -/
def State.begun (s : State) (p : Port) : PortState :=
  if (s.port p).txn = .closed then
    { s.port p with out := [], reply := [s.statusByte p, (s.port p).prevResult.code] }
  else s.port p

/-- How many bytes have completed in a transaction whose command is not taken. -/
def Txn.completed : Txn → Nat
  | .selected got => got.length
  | .closed => 0
  | .opened _ _ => 0
  | .ignored => 0

/-- The bytes out of a port in its latest transaction: those shifted out, and those that follow (R166). -/
def PortState.answer (ps : PortState) : List Byte := ps.out ++ ps.reply

/-- A port at the end of m bytes: those still to be shifted out are out in order, then 0x00 (R166, R177). -/
def PortState.clocked (ps : PortState) (m : Nat) : PortState :=
  { ps with out := ps.out ++ ps.reply.take m ++ zeros (m - ps.reply.length), reply := ps.reply.drop m }

/-- The state t of a command's effects, with the transaction of port p that took it in s: the bytes of the command and
its n argument bytes that had not completed yet are out, the reply follows, and the result so far stands (R166,
R167). -/
def State.answered (s : State) (p : Port) (n : Nat) (r : Result) (reply : List Byte) (t : State)
    (phase : DataPhase := .none) : State :=
  let ps := (s.begun p).clocked (n + 1 - (s.port p).txn.completed)
  t.modPort p fun x => { x with txn := .opened r phase, out := ps.out, reply := ps.reply ++ reply }

/-- The state that a command or event leaves. -/
def State.after (s : State) (c : Instr) : State :=
  match exec c s with
  | .next t => t
  | _ => s

/-- The code of the command that a row may complete on s: its own, or that of the transaction whose next byte it is. -/
def State.codeOf (s : State) : Instr → Option Byte
  | .appendDataByte p b =>
    match (s.port p).txn with
    | .selected got => (got ++ [b]).head?
    | _ => none
  | c => commandByte c

/-- The result so far of the transaction open on p. -/
def State.resultOn (s : State) (p : Port) : Option Result :=
  match (s.port p).txn with
  | .opened r _ => some r
  | _ => none

/-- An event's flag is set on port q. -/
abbrev State.flagged (s : State) (q : Port) (e : Event) : Prop := (s.port q).events.flags &&& e.bit ≠ 0#11

/-- A flag is set and unmasked (R171). -/
abbrev EventUnit.shows (u : EventUnit) (e : Event) : Prop := u.flags &&& u.mask &&& e.bit ≠ 0#11

/-- Port p is edited, the cells of a frame that it paid for are free, and the pool is judged (R4, R15, R113). -/
def State.cellsBack (s : State) (p : Port) (f : Frame) (edit : PortState → PortState) : State :=
  State.settlePool
    { s with
      pool :=
        { s.pool with free := s.pool.free + (f.length + 63) / 64, freeCells := s.pool.freeCells ++ f.cells }
      ports := s.ports.set p (edit { s.port p with holdings := (s.port p).holdings - (f.length + 63) / 64 }) }

/-- An event unit on which the events of a field, and no others, have been raised (R170, R171). -/
def EventUnit.raised (u : EventUnit) (m : BitVec 11) : EventUnit :=
  if m = 0#11 then u
  else { flags := u.flags ||| m, mask := u.mask, irq := ((u.flags ||| m) &&& u.mask) != 0#11 }

/-- An event's bit when it occurs. -/
def Event.bitIf (e : Event) (b : Bool) : BitVec 11 := if b then e.bit else 0#11

/-- The transfer engine once the pool has been judged, let telling whether shared free reached P11: a halting of the
peer ends with a GO owed (R113). -/
def Engine.letGo (e : Engine) (reached : Bool) : Engine :=
  if e.haltingPeer && reached then { e with haltingPeer := false, flowOwed := .go } else e

/-- The level of POOL_LOW that shared free of a state stands at (R15). -/
def State.levelNow (s : State) : PoolLevel := if s.sharedFree < s.params.poolLow then .below else .atOrAbove

/-- Whether the change from s to t took shared free below P14 (R15). -/
def fellLow (s t : State) : Bool := s.pool.level == .atOrAbove && t.sharedFree < t.params.poolLow

/-- The cells of a list of frames, in the order of the frames (R21). -/
def cellList (l : List Frame) : List Nat := l.flatMap Frame.cells

/-- The ports other than p that hold a record of frame n, in number order (R14). -/
def State.otherHolders (s : State) (p : Port) (n : Nat) : List Port :=
  Port.all.filter fun q => q ≠ p && (s.port q).rx.records.any (·.frame == n)

/-- Whether p holds a record of frame n. -/
def State.holdsRecord (s : State) (p : Port) (n : Nat) : Bool := (s.port p).rx.records.any (·.frame == n)

/-- A frame of the store once p has dropped every reference it held: gone with its last one, and paid for by the
lowest-numbered remaining holder when p was the payer (R14). -/
def State.withoutHolder (s : State) (p : Port) (x : Nat × Frame) : Option (Nat × Frame) :=
  if s.holdsRecord p x.1 then
    match s.otherHolders p x.1 with
    | [] => none
    | heir :: rest =>
      some (x.1,
        { x.2 with
          refs := some (rest.length + 1), payer := if x.2.payer = some p then some heir else x.2.payer })
  else some x

/-- The completion records that a list of trunk frames yields (R29, R145, R146). -/
def recordsFor (outcome : CplOutcome) (l : List Frame) : List CplRecord :=
  (l.filter Frame.notifies).map fun f => { tag := f.tag.getD 0, outcome := outcome, sets := none }

/-- The completion list of a port after the frames of l have ended with their slots converted (R29, R146). -/
def CplList.convert (c : CplList) (outcome : CplOutcome) (l : List Frame) : CplList :=
  { records := c.records ++ recordsFor outcome l, reserved := c.reserved - (l.filter Frame.notifies).length }

/-- The frames of q in a list of window entries that are owed a record: orphans are not (R29). -/
def reportedFrames (w : List WindowEntry) (q : Port) : List Frame :=
  (w.filter fun e => e.owner == q && !e.orphan).map (·.frame)

/-- The row of the closing marker of a frame of a type (spec/opcode_table.json). -/
def closingMarker : Option FrameType → Instr
  | some .data => .dataFrameReceived
  | some .ack => .ackFrameReceived
  | some .reject => .rejectFrameReceived
  | some .halt => .haltFrameReceived
  | some .go => .goFrameReceived
  | some .hello => .helloFrameReceived
  | none => .unknownTypeFrameEnd

/-- A frame of the given type is in reception, and RESET is released. -/
abbrev State.Closing (s : State) (t : Option FrameType) : Prop :=
  s.resetAsserted = false ∧ s.framer.rxState = .receiving ∧ s.framer.type? = t

/-- The closing marker of a valid HELLO: in reception, or cut off by a silent line that came together with the marker
and was taken first (R72, R89, log 27). -/
abbrev State.ClosingHello (s : State) : Prop :=
  s.resetAsserted = false ∧ s.framer.type? = some .hello ∧ s.framer.valid = true ∧
    (s.framer.rxState = .receiving ∨ s.framer.cut = true)

/-- The receiver after a closing marker (R59, R73). -/
def State.atMarker (s : State) : State :=
  { s with
    framer :=
      { s.framer with
        rxState := .between, escPending := false
        watch := if s.framer.watch = .reported then .running else s.framer.watch, cut := false } }

/-- A valid frame with an acceptable acknowledgement number in UP has been heard and has acknowledged (R77, R96). -/
def State.heardAndAcknowledged (s : State) : State :=
  State.acknowledge { s.atMarker with link := { s.link with heard := true } } s.framer.ackField

end Sys2Proof.Machine
end

