-- ==== Sys2Proof/Certificates/Slice0/Obligations.lean ====
section
/-! DEFINITION. The statements for the provers, from the numbered rules of spec/. Each names the rules it formalises; a
state equation says what changes and that nothing else does. The terms are those of Sys2Proof/Safety.lean. -/

section
open Sys2Proof Sys2Proof.Machine

/-! ### The block as a whole -/

/-- The row's form: a step runs the command at the front of the queue on the queue's rest; with no command waiting the
part idles (log 10). -/
def Obligations.StepRunsFrontCommand : Prop :=
  ∀ (s : State) (c : Instr) (rest : List Instr),
    (s.pending = c :: rest → step s = exec c { s with pending := rest }) ∧ (s.pending = [] → step s = .next s)

/-- The values after device reset that the table of R175 gathers, with the rules it names. -/
def Obligations.ResetValues : Prop :=
  State.reset.pool.free = 512 ∧ State.reset.pool.inbound = 0 ∧ State.reset.pool.level = .atOrAbove ∧
    (∀ n, n ∈ State.reset.pool.freeCells ↔ n < 512) ∧ State.reset.pool.inboundCells = [] ∧ State.reset.sharedFree = 448 ∧
    (∀ p, (State.reset.port p).holdings = 0 ∧ (State.reset.port p).floor = 16 ∧ (State.reset.port p).ceiling = 192 ∧
      (State.reset.port p).slot = none ∧ (State.reset.port p).queue = [] ∧ (State.reset.port p).deferred = false ∧
      (State.reset.port p).rx =
        { records := [], high := 24, low := 8, markState := .below, lastRefusal := none } ∧
      (State.reset.port p).cpl = { records := [], reserved := 0 } ∧
      (State.reset.port p).events = { flags := 0, mask := 0, irq := false } ∧
      (State.reset.port p).prevResult = .ok) ∧
    State.reset.frames = [] ∧ State.reset.pointer = .p3 ∧
    State.reset.framer.tx = .idle ∧ State.reset.framer.rxState = .ignoring ∧
    State.reset.framer.invalidCount = 0 ∧ State.reset.framer.watch = .stopped ∧
    State.reset.link =
      { state := .off, confCount := 0, lossCount := 0, heard := false, lastCause := .none, peer := none
        helloTimer := .stopped, helloDue := false, intervalTimer := .stopped, holdOffTimer := .stopped
        flushTimer := .stopped, flushed := false } ∧
    State.reset.engine =
      { window := [], vs := 0, vr := 0, ackOwed := false, ackDelay := .stopped, rejectOwed := false
        rejectOutstanding := false, flowOwed := .none, peerHalted := false, haltingPeer := false, round := none
        ackTimer := .stopped, haltTimer := .stopped, retransCount := 0 } ∧
    State.reset.classifier.active = List.replicate 32 { entry := .unused, hits := 0 } ∧
    State.reset.classifier.shadow = List.replicate 32 { entry := .unused, written := false } ∧
    State.reset.classifier.dirty = false ∧ State.reset.classifier.unclaimed = 0 ∧
    State.reset.lease = { holder := none, timer := .stopped, waiting := [] } ∧
    State.reset.params =
      { station := 0, tHello := 10, nUp := 3, nLoss := 4, tHold := 50, w := 4, tAck := 20, nRetry := 3, tDly := 2
        tHalt := 2000, tFlush := 1000, resume := 24, defaultHosts := 0, tLease := 1000, poolLow := 32 }

/-- The laws of the chapters hold after device reset. -/
def Obligations.LawsHoldAtReset : Prop :=
  State.reset.InterruptLaw ∧ State.reset.LeaseLaw ∧ State.reset.SettingsLaws ∧ State.reset.TableLaw ∧
    State.reset.CounterLaw ∧ State.reset.LevelLaw ∧ State.reset.LinkLaws ∧ State.reset.AccountLaws

/-- R175: asserting RESET gives every state its device reset value and holds the level; the release starts the part
with these values. A transaction in progress has ended, and is ignored until its chip select rises (R165, log 13). -/
def Obligations.DeviceResetAndRelease : Prop :=
  ∀ (s : State),
    (∃ t, exec .deviceReset s = .next t ∧
      t = { State.reset with
            ports := t.ports, resetAsserted := true, freeTick := s.freeTick, pending := s.pending } ∧
      ∀ p, t.port p =
        { State.reset.port p with txn := if (s.port p).txn = .closed then .closed else .ignored }) ∧
    exec .resetRelease s = .next { s with resetAsserted := false }

/-- R165, R175: while RESET is asserted the ports ignore their lines: a transaction whose chip select falls then is
ignored, a command or a byte has no other effect, and no event of the trunk or of a timer has one. After the release
such a transaction is ignored until its chip select rises. Log 2: a command on a port whose transaction is still open
finds that transaction ended, with its result as the previous result (R167). -/
def Obligations.TransactionsAndReset : Prop :=
  ∀ (s : State) (c : Instr) (p : Port) (b : Byte) (r : Result) (ph : DataPhase),
    (s.resetAsserted = true → c.port? = some p → (hostBytes c).isSome →
      exec c s = .next (s.modPort p fun ps => { ps with txn := .ignored })) ∧
    (s.resetAsserted = true → (s.port p).txn = .closed →
      exec (.transactionEnd p .fall) s = .next (s.modPort p fun ps => { ps with txn := .ignored })) ∧
    (s.resetAsserted = true ∨ (s.port p).txn = .ignored ∨ (s.port p).txn = .closed →
      exec (.appendDataByte p b) s = .next s ∧ exec (.readFrameByte p) s = .next s) ∧
    (s.resetAsserted = true → c.port? = none → c ≠ .deviceReset → c ≠ .resetRelease → exec c s = .next s) ∧
    (s.resetAsserted = false → c.port? = some p → (hostBytes c).isSome → (s.port p).txn = .ignored →
      exec c s = .next s) ∧
    (s.resetAsserted = false → c.port? = some p → (hostBytes c).isSome → (s.port p).txn = .opened r ph →
      exec c s = exec c (s.modPort p fun ps => { ps with prevResult := r, txn := .closed }))

/-- R165, R166, R177, sections 11.2 and 11.3: the bytes of a transaction. A command answers with the status byte, the
previous result, 0x00 up to its last argument byte, and a reply of the length the table gives; with a result other than
OK, QUEUED or SHORT the reply is 0x00 in every byte, HELD excepted. Byte by byte: the bytes that a host shifts in for a
command leave it not taken up to the last, and the last does what the command does; bytes behind a taken command are
ignored while the reply and then 0x00 are shifted out. Log 18 for the fields that hold the bytes, log 1 for the rows
that stand for a byte. -/
def Obligations.BytesOutOfThePort : Prop :=
  ∀ (s : State) (c : Instr) (p : Port) (code : Byte) (n : Nat) (got : List Byte) (b : Byte) (rest : List Byte)
    (r : Result),
    s.resetAsserted = false →
    (c.port? = some p → commandByte c = some code → commandArgs code = some n → (s.port p).txn = .closed →
      ∃ t, exec c s = .next t ∧ ∃ r reply, t.resultOn p = some r ∧ (t.port p).out.length = n + 1 ∧
        (t.port p).answer =
          s.statusByte p :: (s.port p).prevResult.code :: zeros (n - 1) ++ reply ∧
        reply.length = replyBytes code ∧
        (r = .ok ∨ r = .queued ∨ r = .short ∨ r = .held ∨ reply = zeros (replyBytes code))) ∧
    (c.port? = some p → hostBytes c = some (got ++ [b]) → (s.port p).txn = .selected got →
      exec (.appendDataByte p b) s = exec c s) ∧
    (c.port? = some p → hostBytes c = some (got ++ b :: rest) → rest ≠ [] → (s.port p).txn = .selected got →
      exec (.appendDataByte p b) s =
        .next (s.modPort p fun ps => { ps.clocked 1 with txn := .selected (got ++ [b]) })) ∧
    (c.port? = some p → hostBytes c = some rest → (s.port p).txn = .closed →
      exec c s =
        .next ((rest.map (Instr.appendDataByte p)).foldl State.after (s.after (.transactionEnd p .fall)))) ∧
    ((s.port p).txn = .opened r .none →
      exec (.appendDataByte p b) s = .next (s.modPort p (·.clocked 1)) ∧
        exec (.readFrameByte p) s = .next (s.modPort p (·.clocked 1)))

/-- R169 with the bit positions of section 11.5: EVT, RXR, CPL, LUP, LSE, BLD, TQF, PLW from bit 7 down. -/
def Obligations.StatusByteBits : Prop :=
  ∀ (s : State) (p : Port),
    ((s.statusByte p).getLsbD 7 = true ↔ (s.port p).events.flags &&& (s.port p).events.mask ≠ 0#11) ∧
    ((s.statusByte p).getLsbD 6 = true ↔ (s.port p).rx.records ≠ []) ∧
    ((s.statusByte p).getLsbD 5 = true ↔ (s.port p).cpl.records ≠ []) ∧
    ((s.statusByte p).getLsbD 4 = true ↔ s.link.state = .up) ∧
    ((s.statusByte p).getLsbD 3 = true ↔ s.lease.holder = some p) ∧
    ((s.statusByte p).getLsbD 2 = true ↔ (s.port p).slot ≠ none) ∧
    ((s.statusByte p).getLsbD 1 = true ↔
      (s.port p).queue.length + (s.engine.window.filter (·.owner == p)).length = 16) ∧
    ((s.statusByte p).getLsbD 0 = true ↔ s.sharedFree < s.params.poolLow)

/-- R165, R167, R168, R169: the fall of chip select opens a transaction with the status byte and the previous result as
its first bytes out; its rise ends it, and sets the previous result to the result of a taken command, or to TRUNCATED
for a command byte whose arguments did not complete, and to nothing without a command byte or in a transaction that is
ignored; an illegal code gives ILLEGAL and has no other effect. Log 3 for the operand. -/
def Obligations.EndOfTransaction : Prop :=
  ∀ (s : State) (p : Port) (r : Result) (ph : DataPhase) (code : Byte) (args : List Byte),
    let ended : Result → State := fun result =>
      s.modPort p fun ps => { ps with prevResult := result, txn := .closed, reply := [] }
    (s.resetAsserted = false → (s.port p).txn = .closed →
      exec (.transactionEnd p .fall) s =
        .next (s.modPort p fun ps =>
          { ps with txn := .selected [], out := [], reply := [s.statusByte p, ps.prevResult.code] })) ∧
    ((s.port p).txn ≠ .closed → exec (.transactionEnd p .fall) s = .next s) ∧
    ((s.port p).txn = .closed → exec (.transactionEnd p .rise) s = .next s) ∧
    ((s.port p).txn = .opened r ph → exec (.transactionEnd p .rise) s = .next (ended r)) ∧
    ((s.port p).txn = .selected (code :: args) → exec (.transactionEnd p .rise) s = .next (ended .truncated)) ∧
    ((s.port p).txn = .selected [] ∨ (s.port p).txn = .ignored →
      exec (.transactionEnd p .rise) s = .next (ended (s.port p).prevResult)) ∧
    (s.Ready p → commandArgs code = none →
      exec (.illegal p code) s = .next (s.answered p 0 .illegal [] s))

/-- R173, R91, R139, R163, R129: the commands that only read, with their replies as section 11.4 lays them out. That TABLE
READ shows the hit count at the moment it is taken is the model's choice, since the third row of R122 says otherwise
(log 28). -/
def Obligations.ReadingCommands : Prop :=
  ∀ (s : State) (p : Port) (r : RxRecord) (rest : List RxRecord) (number selector index : Byte) (a : ActiveEntry)
    (e : ShadowEntry),
    s.Ready p →
    exec (.nop p) s = .next (s.answered p 0 .ok [] s) ∧
    exec (.readStatus p) s =
      .next (s.answered p 0 .ok
        (count16 s.pool.free ++ count16 s.sharedFree ++ count16 (s.port p).holdings ++ [octet (s.port p).floor] ++
          count16 (s.port p).ceiling ++
          [octet (s.port p).queue.length, octet (s.engine.window.filter (·.owner == p)).length,
            octet (s.port p).rx.records.length,
            octet ((s.port p).cpl.records.length + (s.port p).cpl.reserved), s.link.state.code,
            leaseField s.lease.holder] ++
          lastRefusalField (s.port p).rx.lastRefusal ++ count16 s.classifier.unclaimed) s) ∧
    exec (.readLink p) s =
      .next (s.answered p 0 .ok
        ([s.link.state.code, s.link.lastCause.code] ++
          (match s.link.peer with
            | none => [0#8, 0#8]
            | some b => [1#8, b]) ++
          [octet s.engine.window.length] ++ count16 s.framer.invalidCount ++ count16 s.engine.retransCount) s) ∧
    ((s.port p).rx.records = [] → exec (.peekRecord p) s = .next (s.answered p 0 .empty (zeros 8) s)) ∧
    ((s.port p).rx.records = r :: rest →
      exec (.peekRecord p) s =
        .next (s.answered p 0 .ok
          (count16 r.length ++ [if r.source.isLocal then 1#8 else 0#8] ++ octets16 r.source.word ++
            [octet r.cls.val, firstMatchedField r.first, r.delivered.zeroExtend 8]) s)) ∧
    (number.toNat ≤ 14 → ∃ v, s.params.value? number.toNat = some v ∧
      exec (.readParameter p number) s = .next (s.answered p 1 .ok (count16 v) s)) ∧
    (14 < number.toNat → exec (.readParameter p number) s = .next (s.answered p 1 .badArg (zeros 2) s)) ∧
    (selector.getLsbD 0 = false → s.classifier.active[index.toNat]? = some a →
      exec (.tableRead p selector index) s =
        .next (s.answered p 2 .ok (tableReply a.entry a.hits false s.classifier.dirty) s)) ∧
    (selector.getLsbD 0 = true → s.classifier.shadow[index.toNat]? = some e →
      exec (.tableRead p selector index) s =
        .next (s.answered p 2 .ok (tableReply e.entry 0 e.written s.classifier.dirty) s)) ∧
    (s.TableLaw → 31 < index.toNat →
      exec (.tableRead p selector index) s = .next (s.answered p 2 .badArg (zeros 8) s))

/-- R170, R171, R172: READ EVENTS reports flags, enables and top event; ACK EVENTS clears the named flags; SET EVENT MASK
replaces the enables; the interrupt line follows both. -/
def Obligations.EventCommands : Prop :=
  ∀ (s : State) (p : Port) (w : Word),
    s.Ready p →
    (∃ top, exec (.readEvents p) s =
        .next (s.answered p 0 .ok
          (octets16 ((s.port p).events.flags.zeroExtend 16) ++ octets16 ((s.port p).events.mask.zeroExtend 16) ++
            [octet top]) s) ∧
      (top = 0 ↔ ∀ e, ¬(s.port p).events.shows e) ∧
      ∀ e : Event, top = e.rank ↔
        (s.port p).events.shows e ∧ ∀ d : Event, (s.port p).events.shows d → e.rank ≤ d.rank) ∧
    exec (.ackEvents p w) s =
      .next (s.answered p 2 .ok []
        (s.modPort p fun ps =>
          { ps with
            events :=
              { flags := ps.events.flags &&& ~~~(w.extractLsb' 0 11), mask := ps.events.mask
                irq := (ps.events.flags &&& ~~~(w.extractLsb' 0 11) &&& ps.events.mask) != 0#11 } })) ∧
    exec (.setEventMask p w) s =
      .next (s.answered p 2 .ok []
        (s.modPort p fun ps =>
          { ps with
            events :=
              { flags := ps.events.flags, mask := w.extractLsb' 0 11
                irq := (ps.events.flags &&& w.extractLsb' 0 11) != 0#11 } }))

/-- R174 with R14, R20, R24, R42, R116, R148, R155, R156: what PORT RESET leaves of its own port, of the other ports, of
the pool and the frame store, of the window, of the lease and of the shadow table, and that quotas, parameters, active
table, link and trunk counters stay. Where the cells and the references are counted the statement assumes the accounts
of the part. -/
def Obligations.PortReset : Prop :=
  ∀ (s : State) (p : Port),
    s.Ready p →
    let granted : Option Port := if s.lease.holder = some p then s.lease.waiting.head? else none
    let lost : List (Nat × Frame) :=
      s.frames.filter fun x => s.holdsRecord p x.1 && (s.otherHolders p x.1).isEmpty
    let inherited : Port → List Frame := fun q =>
      (s.frames.filter fun x =>
        s.holdsRecord p x.1 && x.2.payer == some p && (s.otherHolders p x.1).head? == some q).map (·.2)
    let freed : List Frame := (s.port p).slot.toList ++ (s.port p).queue ++ lost.map (·.2)
    ∃ t, exec (.portReset p) s = .next t ∧
      t.port p =
        ((s.answered p 0 .ok [] s).modPort p fun ps =>
          { ps with
            holdings := (t.port p).holdings, slot := none, queue := [], deferred := false
            rx := { records := [], high := 24, low := 8, markState := .below, lastRefusal := none }
            cpl := { records := [], reserved := 0 }, events := { flags := 0, mask := 0, irq := false }
            prevResult := .ok }).port p ∧
      (∀ q, q ≠ p →
        t.port q =
          { s.port q with
            holdings := (t.port q).holdings
            events :=
              (s.port q).events.raised
                (Event.leaseGranted.bitIf (granted == some q) ||| Event.poolLow.bitIf (fellLow s t)) }) ∧
      (s.AccountLaws →
        (t.port p).holdings = entryCells s.engine.window p + cellsOf (s.lineFrames p) ∧
        (∀ q, q ≠ p → (t.port q).holdings = (s.port q).holdings + cellsOf (inherited q)) ∧
        t.frames = s.frames.filterMap (s.withoutHolder p) ∧
        t.pool.free = s.pool.free + cellsOf freed ∧
        t.pool.freeCells.Perm (s.pool.freeCells ++ cellList freed)) ∧
      t.pool = { s.pool with free := t.pool.free, freeCells := t.pool.freeCells, level := t.levelNow } ∧
      t.engine =
        Engine.letGo
          { s.engine with
            window := s.engine.window.map fun e => if e.owner = p then { e with orphan := true } else e }
          (s.params.resume ≤ t.sharedFree) ∧
      t.lease =
        (if s.lease.holder = some p then
          match s.lease.waiting with
          | [] => { holder := none, timer := .stopped, waiting := [] }
          | q :: rest => { holder := some q, timer := .running s.params.tLease, waiting := rest }
        else { s.lease with waiting := s.lease.waiting.filter (· ≠ p) }) ∧
      t.classifier =
        (if s.lease.holder = some p then
          { s.classifier with
            shadow := s.classifier.active.map fun a => { entry := a.entry, written := false }, dirty := false }
        else s.classifier) ∧
      t = { s with
            pool := t.pool, ports := t.ports, frames := t.frames, engine := t.engine, classifier := t.classifier
            lease := t.lease }

/-! ### Frames and lists of a port -/

/-- R25 with R5 and R6: the checks of OPEN FRAME in order, and the granted claim with the slot opened and POOL_LOW
judged (R7). The cells of the new frame are drawn from the free ones (R21); which ones is open (R1, log 7). -/
def Obligations.OpenFrame : Prop :=
  ∀ (s : State) (p : Port) (length : Word) (m : Nat),
    s.Ready p →
    (m ≤ s.pool.freeCells.length →
      (drawCells s.freeTick m s.pool.freeCells).1.length = m ∧
        ((drawCells s.freeTick m s.pool.freeCells).1 ++ (drawCells s.freeTick m s.pool.freeCells).2).Perm
          s.pool.freeCells) ∧
    exec (.openFrame p length) s =
      .next
        (let k := (length.toNat + 63) / 64
        let drawn := drawCells s.freeTick k s.pool.freeCells
        if (s.port p).slot ≠ none then s.answered p 2 .slotBusy [] s
        else if length.toNat = 0 ∨ 512 < length.toNat then s.answered p 2 .badArg [] s
        else if (s.port p).ceiling < (s.port p).holdings + k then s.answered p 2 .overCeiling [] s
        else if s.pool.free <
            k + ((Port.all.filter (· ≠ p)).map fun q => (s.port q).floor - (s.port q).holdings).sum then
          s.answered p 2 .poolShort [] s
        else
          s.answered p 2 .ok []
            (State.settlePool
              { s with
                pool := { s.pool with free := s.pool.free - k, freeCells := drawn.2 }
                freeTick := s.freeTick + k
                ports := s.ports.set p
                  { s.port p with
                    holdings := (s.port p).holdings + k
                    slot := some
                      { cells := drawn.1, length := length.toNat, payload := [], origin := .port p, state := .building, cls := none
                        address := none, tag := none, notify := none, refs := none, payer := none } } }))

/-- R26: APPEND DATA is NO_FRAME on a closed slot; each data-phase byte is written at the fill, or ignored with OVERFILL
when the frame is full, or ignored after NO_FRAME, while a byte is shifted out (R166). -/
def Obligations.AppendData : Prop :=
  ∀ (s : State) (p : Port) (b : Byte) (f : Frame) (r : Result),
    (s.Ready p →
      exec (.appendData p) s =
        .next (s.answered p 0 (if (s.port p).slot = none then .noFrame else .ok) [] s .append)) ∧
    (s.resetAsserted = false → (s.port p).txn = .opened r .append → r = .noFrame ∨ (s.port p).slot = none →
      exec (.appendDataByte p b) s = .next (s.modPort p (·.clocked 1))) ∧
    (s.resetAsserted = false → (s.port p).txn = .opened r .append → r ≠ .noFrame → (s.port p).slot = some f →
      exec (.appendDataByte p b) s =
        .next (s.modPort p fun ps =>
          if f.payload.length < f.length then
            { ps.clocked 1 with slot := some { f with payload := f.payload ++ [b] } }
          else { ps.clocked 1 with txn := .opened .overfill .append }))

/-- R30, R31: the checks of COMMIT TRUNK in order, and what a passing one does in one step (R29 for the reserved
slot). -/
def Obligations.CommitTrunk : Prop :=
  ∀ (s : State) (p : Port) (address : Word) (cls tag options : Byte) (f : Frame),
    s.Ready p →
    ((s.port p).slot = none →
      exec (.commitTrunk p address cls tag options) s = .next (s.answered p 5 .noFrame [] s)) ∧
    ((s.port p).slot = some f →
      exec (.commitTrunk p address cls tag options) s =
        .next
          (if f.payload.length ≠ f.length then s.answered p 5 .notFull [] s
          else if 3 < cls.toNat then s.answered p 5 .badArg [] s
          else if s.link.state = .off then s.answered p 5 .linkOff [] s
          else if s.link.flushed = true then s.answered p 5 .linkDown [] s
          else if 16 ≤ (s.port p).queue.length + (s.engine.window.filter (·.owner == p)).length then
            s.answered p 5 .queueFull [] s
          else if options.getLsbD 0 = true ∧ 16 ≤ (s.port p).cpl.records.length + (s.port p).cpl.reserved then
            s.answered p 5 .noSlot [] s
          else
            s.answered p 5 .ok []
              (s.modPort p fun ps =>
                { ps with
                  slot := none
                  queue :=
                    ps.queue ++
                      [{ f with
                          state := .waiting, cls := some (Fin.ofNat 4 cls.toNat), address := some address
                          tag := some tag, notify := some (options.getLsbD 0) }]
                  cpl :=
                    { ps.cpl with
                      reserved := if options.getLsbD 0 = true then ps.cpl.reserved + 1 else ps.cpl.reserved } })))

/-- R34, R35, R36: the checks of COMMIT LOCAL in order, and what a passing one does: the delivery with the sender as
source (its own statement is Delivery), the completion record with notify, the slot closed. -/
def Obligations.CommitLocal : Prop :=
  ∀ (s : State) (p : Port) (targets cls tag options : Byte) (f : Frame),
    s.Ready p →
    ((s.port p).slot = none →
      exec (.commitLocal p targets cls tag options) s = .next (s.answered p 4 .noFrame [] s)) ∧
    ((s.port p).slot = some f →
      exec (.commitLocal p targets cls tag options) s =
        .next
          (let g : Frame :=
            { f with
              cls := some (Fin.ofNat 4 cls.toNat), tag := some tag, notify := some (options.getLsbD 0) }
          let wanted : HostSet := targets.extractLsb' 0 4
          let room := s.roomSet wanted
          let given : HostSet :=
            if s.choosePayer ((f.length + 63) / 64) room (some p) = none then 0#4 else room
          if f.payload.length ≠ f.length then s.answered p 4 .notFull [] s
          else if 3 < cls.toNat ∨ wanted = 0#4 then s.answered p 4 .badArg [] s
          else if options.getLsbD 0 = true ∧ 16 ≤ (s.port p).cpl.records.length + (s.port p).cpl.reserved then
            s.answered p 4 .noSlot [] s
          else
            s.answered p 4 .ok []
              ((s.deliver g wanted (.fromPort p) none (some p)).modPort p fun ps =>
                if options.getLsbD 0 = true then
                  { ps with
                    slot := none
                    cpl :=
                      { ps.cpl with
                        records :=
                          ps.cpl.records ++
                            [{ tag := tag, outcome := if given = 0#4 then .noTarget else .delivered
                               sets := some (given, wanted &&& ~~~given) }] }
                    events := ps.events.raise .txDone }
                else { ps with slot := none })))

/-- R28 and R38: DISCARD FRAME ends the frame of an open slot; CANCEL ends the oldest waiting frame with the tag and
releases its slot, gives IN_FLIGHT for one in the window that is no orphan, else NOT_FOUND. -/
def Obligations.DiscardAndCancel : Prop :=
  ∀ (s : State) (p : Port) (tag : Byte) (f : Frame),
    s.Ready p →
    ((s.port p).slot = none → exec (.discardFrame p) s = .next (s.answered p 0 .noFrame [] s)) ∧
    ((s.port p).slot = some f →
      exec (.discardFrame p) s =
        .next (s.answered p 0 .ok [] (s.cellsBack p f fun ps => { ps with slot := none }))) ∧
    ((s.port p).queue.find? (·.tag == some tag) = some f →
      exec (.cancel p tag) s =
        .next (s.answered p 1 .ok []
          (s.cellsBack p f fun ps =>
            { ps with
              queue := ps.queue.eraseP (·.tag == some tag)
              cpl :=
                { ps.cpl with
                  reserved := if f.notify = some true then ps.cpl.reserved - 1 else ps.cpl.reserved } }))) ∧
    ((s.port p).queue.find? (·.tag == some tag) = none →
      exec (.cancel p tag) s =
        .next (s.answered p 1
          (if s.engine.window.any fun e => e.owner == p && !e.orphan && e.frame.tag == some tag then .inFlight
            else .notFound) [] s))

/-- R140: READ FRAME fixes the head record's payload and the offset, EMPTY without a record; each byte of its data phase
returns the payload byte at the position, or 0x00 with SHORT past the end, whatever is shifted in (R177). -/
def Obligations.ReadFrame : Prop :=
  ∀ (s : State) (p : Port) (offset : Word) (r : RxRecord) (rest : List RxRecord) (f : Frame) (q : Result)
    (payload : List Byte) (any : Option (List Byte)) (n : Nat) (b : Byte),
    (s.Ready p → (s.port p).rx.records = [] →
      exec (.readFrame p offset) s = .next (s.answered p 2 .empty [] s (.read none offset.toNat))) ∧
    (s.Ready p → (s.port p).rx.records = r :: rest → s.frame? r.frame = some f →
      exec (.readFrame p offset) s = .next (s.answered p 2 .ok [] s (.read (some f.payload) offset.toNat))) ∧
    (s.resetAsserted = false → (s.port p).txn = .opened q (.read (some payload) n) →
      exec (.readFrameByte p) s =
        .next (s.modPort p fun ps =>
          { ps with
            txn := .opened (if n < payload.length then q else .short) (.read (some payload) (n + 1))
            out := ps.out ++ [payload.getD n 0#8] })) ∧
    (s.resetAsserted = false → (s.port p).txn = .opened q (.read none n) →
      exec (.readFrameByte p) s =
        .next (s.modPort p fun ps =>
          { ps with txn := .opened q (.read none (n + 1)), out := ps.out ++ [0#8] })) ∧
    (s.resetAsserted = false → (s.port p).txn = .opened q (.read any n) →
      exec (.appendDataByte p b) s = exec (.readFrameByte p) s)

/-- R142 and R147: SET MARKS replaces both marks when both lie in their ranges and keeps the mark state; TAKE COMPLETION
reports and removes the head completion record. -/
def Obligations.MarksAndCompletions : Prop :=
  ∀ (s : State) (p : Port) (high low : Byte) (c : CplRecord) (rest : List CplRecord),
    s.Ready p →
    exec (.setMarks p high low) s =
      .next
        (if 1 ≤ high.toNat ∧ high.toNat ≤ 32 ∧ low.toNat < high.toNat then
          s.answered p 2 .ok []
            (s.modPort p fun ps => { ps with rx := { ps.rx with high := high.toNat, low := low.toNat } })
        else s.answered p 2 .badArg [] s) ∧
    ((s.port p).cpl.records = [] → exec (.takeCompletion p) s = .next (s.answered p 0 .empty (zeros 4) s)) ∧
    ((s.port p).cpl.records = c :: rest →
      exec (.takeCompletion p) s =
        .next (s.answered p 0 .ok
          [c.tag, c.outcome.code, ((c.sets.map (·.1)).getD 0#4).zeroExtend 8,
            ((c.sets.map (·.2)).getD 0#4).zeroExtend 8]
          (s.modPort p fun ps => { ps with cpl := { ps.cpl with records := rest } })))

/-- R141 with R14: RELEASE RECORD removes the head record and drops its reference: the frame ends with its last one,
payment passes to the lowest-numbered port that still holds a record when the payer lets go, and the marks are
examined. -/
def Obligations.ReleaseRecord : Prop :=
  ∀ (s : State) (p : Port) (r : RxRecord) (rest : List RxRecord) (f : Frame) (left : Nat) (y z : Port),
    s.Ready p →
    ((s.port p).rx.records = [] → exec (.releaseRecord p) s = .next (s.answered p 0 .empty [] s)) ∧
    ((s.port p).rx.records = r :: rest → s.frame? r.frame = some f → f.refs = some (left + 1) →
      f.payer = some y →
      (left ≠ 0 → y = p →
        Port.all.find? (fun q =>
          (if q = p then rest else (s.port q).rx.records).any (·.frame == r.frame)) = some z) →
      exec (.releaseRecord p) s =
        .next (s.answered p 0 .ok []
          (let k := (f.length + 63) / 64
          let s1 := s.modPort p fun ps => { ps with rx := { ps.rx with records := rest } }
          let s2 : State :=
            if left = 0 then
              { s1.modPort y (fun ps => { ps with holdings := ps.holdings - k }) with
                pool := { s.pool with free := s.pool.free + k, freeCells := s.pool.freeCells ++ f.cells }
                frames := s.frames.filter (·.1 ≠ r.frame) }
            else
              let g : Frame := { f with refs := some left, payer := if y = p then some z else some y }
              let s3 :=
                if y = p then
                  (s1.modPort p fun ps => { ps with holdings := ps.holdings - k }).modPort z fun ps =>
                    { ps with holdings := ps.holdings + k }
                else s1
              { s3 with frames := s.frames.map fun x => if x.1 = r.frame then (r.frame, g) else x }
          s2.settlePool.modPort p fun ps =>
            if ps.rx.markState = .above ∧ rest.length ≤ ps.rx.low then
              { ps with rx := { ps.rx with markState := .below }, events := ps.events.raise .rxLow }
            else ps)))

/-! ### The lease and the shared settings -/

/-- R152, R153, R156: LEASE ACQUIRE by its first case that applies, with the holder and the position in the reply; LEASE
RENEW; LEASE WITHDRAW. -/
def Obligations.LeaseRequests : Prop :=
  ∀ (s : State) (p h : Port) (options : Byte),
    s.Ready p →
    (s.lease.holder = none →
      exec (.leaseAcquire p options) s =
        .next (s.answered p 1 .ok [octet p.toNat, 0#8]
          { s with lease := { s.lease with holder := some p, timer := .running s.params.tLease } })) ∧
    (s.lease.holder = some h →
      exec (.leaseAcquire p options) s =
        .next
          (if h = p then
            s.answered p 1 .ok [octet p.toNat, 0#8]
              { s with lease := { s.lease with timer := .running s.params.tLease } }
          else if options.getLsbD 0 = false then s.answered p 1 .held [octet h.toNat, 0#8] s
          else if p ∈ s.lease.waiting then
            s.answered p 1 .queued [octet h.toNat, octet (s.lease.waiting.idxOf p + 1)] s
          else
            s.answered p 1 .queued [octet h.toNat, octet (s.lease.waiting.length + 1)]
              { s with lease := { s.lease with waiting := s.lease.waiting ++ [p] } })) ∧
    exec (.leaseRenew p) s =
      .next
        (if s.lease.holder = some p then
          s.answered p 0 .ok [] { s with lease := { s.lease with timer := .running s.params.tLease } }
        else s.answered p 0 .notHolder [] s) ∧
    exec (.leaseWithdraw p) s =
      .next
        (if p ∈ s.lease.waiting then
          s.answered p 0 .ok [] { s with lease := { s.lease with waiting := s.lease.waiting.filter (· ≠ p) } }
        else s.answered p 0 .notFound [] s)

/-- R154, R155: LEASE RELEASE by the holder and the expiry of a running lease timer end the holding: the shadow is
reverted, LEASE_LOST is raised on expiry alone, and the head of the waiting list is granted the lease, or it becomes
FREE. -/
def Obligations.EndOfHolding : Prop :=
  ∀ (s : State) (p h : Port) (n : Nat),
    let ended : Bool → Port → State := fun expired old =>
      let s1 : State :=
        { s with
          classifier :=
            { s.classifier with
              shadow := s.classifier.active.map fun a => { entry := a.entry, written := false }, dirty := false } }
      let s2 := if expired then s1.raise old .leaseLost else s1
      match s.lease.waiting with
      | [] => { s2 with lease := { holder := none, timer := .stopped, waiting := [] } }
      | q :: rest =>
        State.raise
          { s2 with lease := { holder := some q, timer := .running s.params.tLease, waiting := rest } }
          q .leaseGranted
    (s.Ready p → s.lease.holder = some p →
      exec (.leaseRelease p) s = .next (s.answered p 0 .ok [] (ended false p))) ∧
    (s.Ready p → s.lease.holder ≠ some p →
      exec (.leaseRelease p) s = .next (s.answered p 0 .notHolder [] s)) ∧
    (s.resetAsserted = false → s.lease.holder = some h → s.lease.timer = .running n →
      exec .leaseTimerExpiry s = .next (ended true h))

/-- R17: SET QUOTA: the issuing port, the named port and the quotas, and the sum of the floors are judged in that order,
and the new quotas act at once with the pool judged. -/
def Obligations.SetQuota : Prop :=
  ∀ (s : State) (p q : Port) (port floor : Byte) (ceiling : Word),
    s.Ready p →
    (s.lease.holder ≠ some p →
      exec (.setQuota p port floor ceiling) s = .next (s.answered p 4 .notHolder [] s)) ∧
    (s.lease.holder = some p → 3 < port.toNat →
      exec (.setQuota p port floor ceiling) s = .next (s.answered p 4 .badArg [] s)) ∧
    (s.lease.holder = some p → port.toNat = q.toNat →
      exec (.setQuota p port floor ceiling) s =
        .next
          (if 128 < floor.toNat ∨ ceiling.toNat < floor.toNat ∨ 512 < ceiling.toNat then
            s.answered p 4 .badArg [] s
          else if 256 <
              ((Port.all.filter (· ≠ q)).map fun r => (s.port r).floor).sum + floor.toNat then
            s.answered p 4 .quotaSum [] s
          else
            s.answered p 4 .ok []
              (State.settlePool
                (s.modPort q fun ps => { ps with floor := floor.toNat, ceiling := ceiling.toNat }))))

/-- R161 with the ranges of R160, R15 and R113: SET PARAMETER refuses a port that is not the holder, a number above 14
and a value outside the range; else that parameter alone takes the value, P14 records the POOL_LOW level without an
event, and P11 may end the halting of the peer. -/
def Obligations.SetParameter : Prop :=
  ∀ (s : State) (p : Port) (number : Byte) (value : Word) (lo hi m : Nat),
    let range : Option (Nat × Nat) :=
      [(0, 255), (1, 100), (1, 7), (2, 15), (10, 1000), (1, 7), (2, 500), (1, 15), (0, 50), (10, 10000), (0, 10000),
        (9, 256), (0, 15), (10, 10000), (0, 256)][number.toNat]?
    s.Ready p →
    (s.lease.holder ≠ some p →
      exec (.setParameter p number value) s = .next (s.answered p 3 .notHolder [] s)) ∧
    (s.lease.holder = some p → 14 < number.toNat →
      exec (.setParameter p number value) s = .next (s.answered p 3 .badArg [] s)) ∧
    (s.lease.holder = some p → range = some (lo, hi) → value.toNat < lo ∨ hi < value.toNat →
      exec (.setParameter p number value) s = .next (s.answered p 3 .badArg [] s)) ∧
    (s.lease.holder = some p → range = some (lo, hi) → lo ≤ value.toNat → value.toNat ≤ hi →
      let written : State := { s with params := s.params.write number.toNat value.toNat }
      written.params.value? m =
        (if m = number.toNat then some value.toNat else s.params.value? m) ∧
      exec (.setParameter p number value) s =
        .next (s.answered p 3 .ok []
          (if number.toNat = 14 then
            { written with
              pool :=
                { s.pool with level := if s.sharedFree < value.toNat then .below else .atOrAbove } }
          else if number.toNat = 11 ∧ s.engine.haltingPeer = true ∧ value.toNat ≤ s.sharedFree then
            { written with engine := { s.engine with haltingPeer := false, flowOwed := .go } }
          else written)))

/-- R159: a management command on a port that does not hold the lease has result NOT_HOLDER and no effect, whatever its
arguments. -/
def Obligations.NotHolder : Prop :=
  ∀ (s : State) (c : Instr) (p : Port) (code : Byte) (n : Nat),
    c.isManagement = true → c.port? = some p → commandByte c = some code → commandArgs code = some n →
    s.Ready p → s.lease.holder ≠ some p →
    exec c s = .next (s.answered p n .notHolder [] s)

/-- R127, R128, R130, R131: the commands that edit the tables, from the lease holder and from any other port. -/
def Obligations.TableCommands : Prop :=
  ∀ (s : State) (p : Port) (index : Byte) (address mask : Word) (hosts flags : Byte),
    s.Ready p →
    exec (.tableWrite p index address mask hosts flags) s =
      .next
        (if s.lease.holder ≠ some p then s.answered p 7 .notHolder [] s
        else if 31 < index.toNat ∨ hosts.extractLsb' 0 4 = 0#4 then s.answered p 7 .badArg [] s
        else
          s.answered p 7 .ok []
            { s with
              classifier :=
                { s.classifier with
                  shadow :=
                    s.classifier.shadow.set index.toNat
                      { entry :=
                          { inUse := true, address := address, mask := mask, hosts := hosts.extractLsb' 0 4
                            stop := flags.getLsbD 0 }
                        written := true }
                  dirty := true } }) ∧
    exec (.tableClear p index) s =
      .next
        (if s.lease.holder ≠ some p then s.answered p 1 .notHolder [] s
        else if 31 < index.toNat then s.answered p 1 .badArg [] s
        else
          s.answered p 1 .ok []
            { s with
              classifier :=
                { s.classifier with
                  shadow :=
                    s.classifier.shadow.set index.toNat
                      { entry := { inUse := false, address := 0, mask := 0, hosts := 0, stop := false }
                        written := true }
                  dirty := true } }) ∧
    exec (.tableCommit p) s =
      .next
        (if s.lease.holder ≠ some p then s.answered p 0 .notHolder [] s
        else if s.classifier.dirty = false then s.answered p 0 .ok [] s
        else
          s.answered p 0 .ok [] (State.raiseAll
            { s with
              classifier :=
                { s.classifier with
                  active :=
                    List.zipWith
                      (fun a e => { entry := e.entry, hits := if e.written = true then 0 else a.hits })
                      s.classifier.active s.classifier.shadow
                  shadow := s.classifier.shadow.map fun e => { entry := e.entry, written := false }
                  dirty := false } }
            .tableSwapped)) ∧
    exec (.tableRevert p) s =
      .next
        (if s.lease.holder ≠ some p then s.answered p 0 .notHolder [] s
        else
          s.answered p 0 .ok []
            { s with
              classifier :=
                { s.classifier with
                  shadow := s.classifier.active.map fun a => { entry := a.entry, written := false }
                  dirty := false } })

/-! ### The pool and delivery -/

/-- R15 and R113: what follows every change of the pool: the level is recorded, a fall below P14 raises POOL_LOW on all
four ports, and shared free at or above P11 ends the halting of the peer with a GO owed. -/
def Obligations.PoolIsJudged : Prop :=
  ∀ (s : State) (q : Port),
    s.sharedFree = s.pool.free - ((Port.all.map fun r => (s.port r).floor - (s.port r).holdings).sum) ∧
    s.settlePool =
      { s with
        pool := { s.pool with level := if s.sharedFree < s.params.poolLow then .below else .atOrAbove }
        ports := s.settlePool.ports
        engine :=
          if s.engine.haltingPeer = true ∧ s.params.resume ≤ s.sharedFree then
            { s.engine with haltingPeer := false, flowOwed := .go }
          else s.engine } ∧
    s.settlePool.port q =
      { s.port q with
        events :=
          if s.pool.level = .atOrAbove ∧ s.sharedFree < s.params.poolLow then
            { flags := (s.port q).events.flags ||| Event.poolLow.bit, mask := (s.port q).events.mask
              irq := (((s.port q).events.flags ||| Event.poolLow.bit) &&& (s.port q).events.mask) != 0#11 }
          else (s.port q).events }

/-- R12, R13, R18, R123: room, and the choice of the payer: the sender of a local frame when it is a target with room,
else the lowest-numbered target with room whose holdings and the frame's cells stay within its ceiling. -/
def Obligations.PayerChoice : Prop :=
  ∀ (s : State) (k : Nat) (targets : HostSet) (p q : Port),
    let room := s.roomSet targets
    let able : Port → Prop := fun r =>
      targets.has r = true ∧ (s.port r).rx.records.length < 32 ∧ (s.port r).holdings + k ≤ (s.port r).ceiling
    (room.has q = true ↔ targets.has q = true ∧ (s.port q).rx.records.length < 32) ∧
    (s.choosePayer k room none = some q ↔ able q ∧ ∀ r : Port, able r → q.toNat ≤ r.toNat) ∧
    (room.has p = true → s.choosePayer k room (some p) = some p) ∧
    (room.has p = false → s.choosePayer k room (some p) = s.choosePayer k room none)

/-- R12, R13, R123, R124, R35, R138, R143: what a delivery does to each port, to the frame store and to the pool: payment
moves to the payer or the cells are freed, every target with room gets the same record when there is a payer, and every
other target is refused with its reason. Each port has exactly the events of its part in it, POOL_LOW where the pool
fell below P14 (R15), and the halting of the peer ends when shared free has reached P11 (R113). -/
def Obligations.Delivery : Prop :=
  ∀ (s : State) (f : Frame) (targets : HostSet) (source : Source) (first : Option Nat) (sender : Option Port)
    (q : Port),
    let t := s.deliver f targets source first sender
    let k := (f.length + 63) / 64
    let room := s.roomSet targets
    let payer := s.choosePayer k room sender
    let given : HostSet := if payer = none then 0#4 else room
    let record : RxRecord :=
      { frame := s.freshFrame, length := f.length, source := source, cls := f.classNo, first := first
        delivered := room }
    t.port q =
      { s.port q with
        holdings :=
          (s.port q).holdings - (if sender = some q ∧ payer ≠ some q then k else 0) +
            (if payer = some q ∧ sender ≠ some q then k else 0)
        rx :=
          { (s.port q).rx with
            records :=
              if given.has q = true then (s.port q).rx.records ++ [record] else (s.port q).rx.records
            markState :=
              if given.has q = true ∧ (s.port q).rx.high ≤ (s.port q).rx.records.length + 1 then .above
              else (s.port q).rx.markState
            lastRefusal :=
              if targets.has q = true ∧ given.has q = false then
                some { reason := if room.has q = true then .ceiling else .room, source := source }
              else (s.port q).rx.lastRefusal }
        events :=
          (s.port q).events.raised
            (Event.rxReady.bitIf (given.has q) |||
              Event.rxHigh.bitIf
                (given.has q && (s.port q).rx.markState == .below &&
                  (s.port q).rx.high ≤ (s.port q).rx.records.length + 1) |||
              Event.rxRefused.bitIf (targets.has q && !given.has q) |||
              Event.poolLow.bitIf (fellLow s t)) } ∧
    t.frames =
      (match payer with
        | some y =>
          s.frames ++
            [(s.freshFrame,
              { f with state := .delivered, refs := some room.ports.length, payer := some y })]
        | none => s.frames) ∧
    s.frame? s.freshFrame = none ∧
    t.pool =
      { s.pool with
        free := s.pool.free + (if payer = none then k else 0)
        inbound := s.pool.inbound - (if sender = none then k else 0)
        freeCells := if payer = none then s.pool.freeCells ++ f.cells else s.pool.freeCells
        level := t.levelNow } ∧
    t = { s with
          pool := t.pool, ports := t.ports, frames := t.frames
          engine := s.engine.letGo (s.params.resume ≤ t.sharedFree) }

/-- R119, R120: the scan of the active table: which entries it reaches, the union of the host sets of those that match,
their raised hit counters, and the first match. R121, R134: the default host set, and the unclaimed frame. -/
def Obligations.Lookup : Prop :=
  ∀ (s : State) (f : Frame) (address : Word) (i : Nat) (a : ActiveEntry) (q : Port),
    let l := s.classifier.active
    let r := scanFrom address 0 l
    let hit : ActiveEntry → Prop := fun e =>
      e.entry.inUse = true ∧ address &&& e.entry.mask = e.entry.address &&& e.entry.mask
    let reached : Nat → Prop := fun j => ∀ e ∈ l.take j, ¬(hit e ∧ e.entry.stop = true)
    let scanned : State := { s with classifier := { s.classifier with active := r.entries } }
    (l[i]? = some a → (hit a ∧ reached i) →
      r.entries[i]? = some { a with hits := if a.hits < 65535 then a.hits + 1 else a.hits }) ∧
    (l[i]? = some a → ¬(hit a ∧ reached i) → r.entries[i]? = some a) ∧
    (r.hosts.has q = true ↔
      ∃ j, j < l.length ∧ ∃ e ∈ l[j]?, hit e ∧ reached j ∧ e.entry.hosts.has q = true) ∧
    (r.first = some i ↔ (∃ e ∈ l[i]?, hit e) ∧ ∀ e ∈ l.take i, ¬hit e) ∧
    (r.hosts ≠ 0#4 → s.classify f address = scanned.deliver f r.hosts (.fromTrunk address) r.first none) ∧
    (r.hosts = 0#4 → BitVec.ofNat 4 s.params.defaultHosts ≠ 0#4 →
      s.classify f address =
        scanned.deliver f (BitVec.ofNat 4 s.params.defaultHosts) (.fromTrunk address) none none) ∧
    (r.hosts = 0#4 → BitVec.ofNat 4 s.params.defaultHosts = 0#4 →
      s.classify f address =
        (let k := (f.length + 63) / 64
        let freed :=
          State.settlePool
            { scanned with
              pool :=
                { s.pool with
                  free := s.pool.free + k, inbound := s.pool.inbound - k
                  freeCells := s.pool.freeCells ++ f.cells }
              classifier :=
                { scanned.classifier with
                  unclaimed :=
                    if s.classifier.unclaimed < 65535 then s.classifier.unclaimed + 1
                    else s.classifier.unclaimed } }
        match s.lease.holder with
        | some h => freed.raise h .unclaimed
        | none => freed))

/-! ### The link -/

/-- R79 with R52, R56, R58, R73, R76: TRUNK ON on the holder's port brings the link from OFF to SEEKING, and has no
effect in any other state. The queues are empty while the link is OFF (R56), which the statement assumes. -/
def Obligations.TrunkOn : Prop :=
  ∀ (s : State) (p : Port),
    s.Ready p → s.lease.holder = some p →
    (s.link.state ≠ .off → exec (.trunkOn p) s = .next (s.answered p 0 .ok [] s)) ∧
    (s.link.state = .off → s.link.flushTimer = .stopped → (∀ q, (s.port q).queue = []) →
      exec (.trunkOn p) s =
        .next (s.answered p 0 .ok []
          (State.raiseAll
            { s with
              framer := { s.framer with rxState := .hunting, watch := .running }
              link :=
                { s.link with
                  state := .seeking, confCount := 0, lossCount := 0, heard := false, helloDue := true
                  helloTimer := .running s.params.tHello, intervalTimer := .stopped, holdOffTimer := .stopped
                  flushTimer := if s.params.tFlush = 0 then .stopped else .running s.params.tFlush
                  flushed := if s.params.tFlush = 0 then true else s.link.flushed } }
            .linkChange)))

/-- R80: TRUNK OFF on the holder's port: the transmission is aborted, window and waiting frames fail with LINK_OFF in
that order, the reception is cut off, timers, flags and counts are cleared, the link is OFF with LINK_CHANGE; no effect
when it is OFF already. With the level of POOL_LOW recorded as it stands (R15), a port has TX_DONE for its records,
LINK_CHANGE, and no other event. A frame that is cut off leaves its registers as they are (log 23). -/
def Obligations.TrunkOff : Prop :=
  ∀ (s : State) (p q : Port),
    s.Ready p → s.lease.holder = some p →
    (s.link.state = .off → exec (.trunkOff p) s = .next (s.answered p 0 .ok [] s)) ∧
    (s.link.state ≠ .off →
      let frames : Port → List Frame := fun r => reportedFrames s.engine.window r ++ (s.port r).queue
      let freed : Port → List Frame := fun r =>
        s.lineFrames r ++ entryFrames s.engine.window r ++ (s.port r).queue
      let cutOff : Bool := s.framer.rxState == .receiving
      ∃ u, exec (.trunkOff p) s = .next (s.answered p 0 .ok [] u) ∧
        u.port q =
          { s.port q with
            holdings := (s.port q).holdings - cellsOf (freed q), queue := []
            cpl := (s.port q).cpl.convert .linkOff (frames q), events := (u.port q).events } ∧
        (s.LevelLaw →
          (u.port q).events =
              (s.port q).events.raised
                (Event.linkChange.bit ||| Event.txDone.bitIf ((frames q).any Frame.notifies)) ∧
            u.pool.level = u.levelNow) ∧
        u.pool.free =
          s.pool.free + cellsOf (Port.all.flatMap freed) + (if cutOff then s.pool.inbound else 0) ∧
        u.pool.inbound = (if cutOff then 0 else s.pool.inbound) ∧
        u.pool.freeCells.Perm
          (s.pool.freeCells ++ cellList (Port.all.flatMap freed) ++ (if cutOff then s.pool.inboundCells else [])) ∧
        u.pool.inboundCells = (if cutOff then [] else s.pool.inboundCells) ∧
        u.framer =
          { s.framer with
            tx := .idle, closing := u.framer.closing, rxState := .ignoring, watch := .stopped, cut := false
            stored := if cutOff then [] else s.framer.stored } ∧
        (s.framer.tx = .idle → u.framer.closing = s.framer.closing) ∧
        (s.framer.tx ≠ .idle →
          u.framer.closing = [Config.escape, Config.marker] ∨ u.framer.closing = [Config.marker]) ∧
        u.engine =
          { s.engine with
            window := [], ackOwed := false, ackDelay := .stopped, rejectOwed := false, rejectOutstanding := false
            flowOwed := .none, peerHalted := false, haltingPeer := false, round := none, ackTimer := .stopped
            haltTimer := .stopped } ∧
        u.link =
          { s.link with
            state := .off, confCount := 0, lossCount := 0, heard := false, helloTimer := .stopped
            helloDue := false, intervalTimer := .stopped, holdOffTimer := .stopped, flushTimer := .stopped
            flushed := false } ∧
        u = { s with
              pool := u.pool, ports := u.ports, framer := u.framer, link := u.link, engine := u.engine
              freeTick := u.freeTick })

/-- R86 with R50, R51, R52, R56, R66, R71: what leaving UP for LOST does: the transmission is aborted, the window goes back
to the heads of the queues and orphans end, the reception is cut off, the engine is cleared, the flush timer started if
stopped (with T_flush 0 the waiting frames fail at once), hold-off started, cause recorded, LINK_CHANGE raised. With the
level of POOL_LOW recorded as it stands (R15), a port has no other event but TX_DONE for its records. A frame that is
cut off leaves its registers as they are (log 23). -/
def Obligations.LeavingUp : Prop :=
  ∀ (s : State) (cause : LossCause) (q : Port),
    let t := s.leaveUp cause
    let queue : Port → List Frame := fun r =>
      ((s.engine.window.filter fun e => e.owner == r && !e.orphan).map fun e =>
        { e.frame with state := .waiting }) ++ (s.port r).queue
    let flush : Bool := s.link.flushTimer == .stopped && s.params.tFlush == 0
    let freed : Port → List Frame := fun r =>
      s.lineFrames r ++ entryFrames (s.engine.window.filter (·.orphan)) r ++ (if flush then queue r else [])
    let cutOff : Bool := s.framer.rxState == .receiving
    t.port q =
      { s.port q with
        holdings := (s.port q).holdings - cellsOf (freed q)
        queue := if flush then [] else queue q
        cpl := if flush then (s.port q).cpl.convert .linkDown (queue q) else (s.port q).cpl
        events := (t.port q).events } ∧
    (s.LevelLaw →
      (t.port q).events =
          (s.port q).events.raised
            (Event.linkChange.bit ||| Event.txDone.bitIf (flush && (queue q).any Frame.notifies)) ∧
        t.pool.level = t.levelNow) ∧
    t.pool.free = s.pool.free + cellsOf (Port.all.flatMap freed) + (if cutOff then s.pool.inbound else 0) ∧
    t.pool.inbound = (if cutOff then 0 else s.pool.inbound) ∧
    t.pool.freeCells.Perm
      (s.pool.freeCells ++ cellList (Port.all.flatMap freed) ++ (if cutOff then s.pool.inboundCells else [])) ∧
    t.pool.inboundCells = (if cutOff then [] else s.pool.inboundCells) ∧
    t.framer =
      { s.framer with
        tx := .idle, closing := t.framer.closing
        rxState := if cutOff then .discarding else s.framer.rxState
        stored := if cutOff then [] else s.framer.stored } ∧
    (s.framer.tx = .idle → t.framer.closing = s.framer.closing) ∧
    (s.framer.tx ≠ .idle →
      t.framer.closing = [Config.escape, Config.marker] ∨ t.framer.closing = [Config.marker]) ∧
    t.engine =
      { s.engine with
        window := [], ackOwed := false, ackDelay := .stopped, rejectOwed := false, rejectOutstanding := false
        flowOwed := .none, peerHalted := false, haltingPeer := false, round := none, ackTimer := .stopped
        haltTimer := .stopped } ∧
    t.link =
      { s.link with
        state := .lost, lossCount := 0, heard := false, lastCause := cause, helloTimer := .stopped
        helloDue := false, intervalTimer := .stopped, holdOffTimer := .running s.params.tHold
        flushTimer :=
          if s.link.flushTimer = .stopped ∧ s.params.tFlush ≠ 0 then .running s.params.tFlush
          else s.link.flushTimer
        flushed := if flush then true else s.link.flushed } ∧
    t = { s with
          pool := t.pool, ports := t.ports, framer := t.framer, link := t.link, engine := t.engine
          freeTick := t.freeTick }

/-- R73, R83, R85, R109: the halt timer's expiry loses the link with HALT_TIMEOUT; a silent line cuts off the frame in
reception, makes the receiver hunt, loses UP with SILENT, takes CONFIRMING back to SEEKING, and has no other effect; a
reported watch reports no more. R89, its last row: a silent line and a HELLO from another station that come together in
SEEKING, in either order (log 27). A frame that is cut off leaves its registers as they are (log 23). -/
def Obligations.HaltTimeoutAndSilence : Prop :=
  ∀ (s : State) (n : Nat),
    s.resetAsserted = false →
    (s.engine.haltTimer = .running n → exec .haltTimerExpiry s = .next (s.leaveUp .haltTimeout)) ∧
    (s.framer.watch ≠ .running → exec .silentLine s = .next s) ∧
    (s.framer.watch = .running →
      let hunting : State :=
        { s with
          framer :=
            { s.framer with
              rxState := .hunting, watch := .reported, cut := s.framer.rxState == .receiving } }
      let returned : State :=
        { hunting with
          framer := { hunting.framer with stored := [] }
          pool :=
            { s.pool with
              free := s.pool.free + s.pool.inbound, inbound := 0
              freeCells := s.pool.freeCells ++ s.pool.inboundCells, inboundCells := [] } }
      let cut : State :=
        if s.framer.rxState ≠ .receiving then hunting
        else if s.pool.inbound = 0 then returned
        else returned.settlePool
      exec .silentLine s =
        .next
          (if s.link.state = .up then cut.leaveUp .silent
          else if s.link.state = .confirming then
            State.raiseAll
              { cut with
                link :=
                  { s.link with
                    state := .seeking, confCount := 0, lossCount := 0, heard := false, helloDue := true
                    helloTimer := .running s.params.tHello, intervalTimer := .stopped
                    holdOffTimer := .stopped } }
              .linkChange
          else cut)) ∧
    (s.framer.watch = .running → s.Closing (some .hello) → s.framer.valid = true → s.link.state = .seeking →
      s.framer.headerOctet 2 ≠ BitVec.ofNat 8 s.params.station →
      (s.after .silentLine).link.state = .seeking ∧
        ((s.after .silentLine).after .helloFrameReceived).link.state = .confirming ∧
        ((s.after .helloFrameReceived).after .silentLine).link.state = .seeking)

/-- R81, R82, R85, R87, R88: what the closing marker of a valid HELLO does in each link state. Entry into UP is
EntryIntoUp, leaving it LeavingUp. A HELLO that a silent line has cut off as its closing marker came is no exception
(R89, log 27). -/
def Obligations.HelloFrames : Prop :=
  ∀ (s : State),
    s.ClosingHello →
    exec .helloFrameReceived s =
      .next
        (let m := s.atMarker
        let station := s.framer.headerOctet 2
        let seen := (s.framer.headerOctet 0).getLsbD 0
        let own : Bool := station == BitVec.ofNat 8 s.params.station
        let looped : State :=
          let aborted := m.abortTransmission
          State.raiseAll
            { aborted with
              link :=
                { s.link with
                  state := .lost, lossCount := 0, heard := false, lastCause := .looped, helloTimer := .stopped
                  helloDue := false, intervalTimer := .stopped, holdOffTimer := .running s.params.tHold } }
            .linkChange
        match s.link.state with
        | .off => m
        | .lost => m
        | .seeking =>
          if own then looped
          else
            State.raiseAll
              { m with
                link :=
                  { s.link with
                    state := .confirming, peer := some station, confCount := 0, lossCount := 0, heard := false
                    helloDue := true, helloTimer := .running s.params.tHello
                    intervalTimer := .running s.params.tHello } }
              .linkChange
        | .confirming =>
          if own then looped
          else if s.link.peer ≠ some station then
            { m with link := { s.link with peer := some station, confCount := 0, heard := true } }
          else if seen = false then { m with link := { s.link with confCount := 0, heard := true } }
          else
            let heard : State :=
              { m with link := { s.link with confCount := s.link.confCount + 1, heard := true } }
            if s.link.confCount + 1 < s.params.nUp then heard else heard.enterUp
        | .up =>
          if own then m.leaveUp .looped
          else if seen = false then m.leaveUp .peerRestart
          else if s.link.peer ≠ some station then
            State.leaveUp { m with link := { s.link with peer := some station } } .peerRestart
          else { m with link := { s.link with heard := true } })

/-- R81, R82, R87: a valid frame of another type outside UP is discarded; in CONFIRMING it is a confirmation. No cells are
drawn outside UP, which the statement assumes. R84: what entry into UP sets. -/
def Obligations.ConfirmationAndEntryIntoUp : Prop :=
  ∀ (s : State) (k : FrameType),
    (s.Closing (some k) → k ≠ .hello → s.framer.valid = true → s.pool.inbound = 0 →
      s.pool.inboundCells = [] → s.framer.stored = [] → s.link.state ≠ .up →
      exec (closingMarker (some k)) s =
        .next
          (if s.link.state = .confirming then
            let heard : State :=
              { s.atMarker with link := { s.link with confCount := s.link.confCount + 1, heard := true } }
            if s.link.confCount + 1 < s.params.nUp then heard else heard.enterUp
          else s.atMarker)) ∧
    s.enterUp =
      State.raiseAll
        { s with
          engine :=
            { s.engine with
              vs := 0, vr := 0, ackOwed := false, ackDelay := .stopped, rejectOwed := false
              rejectOutstanding := false, flowOwed := .none, peerHalted := false, haltingPeer := false
              round := none, ackTimer := .stopped, haltTimer := .stopped }
          link :=
            { s.link with
              state := .up, confCount := s.params.nUp, lossCount := 0, heard := false, helloDue := false
              helloTimer := .running s.params.tHello, intervalTimer := .running s.params.tHello
              flushTimer := .stopped, flushed := false } }
        .linkChange

/-- R76, R77, R78, R83, R85: the expiries of the HELLO, the interval and the hold-off timer. R89, its third row: the
interval expiry that loses UP and the closing marker of a frame that come together, in either order: after the expiry
the frame is discarded in LOST, its marker seen (log 12); after a valid ACK the expiry finds it heard. -/
def Obligations.LinkTimers : Prop :=
  ∀ (s : State) (n : Nat) (k : Option FrameType),
    let seeking : State :=
      State.raiseAll
        { s with
          link :=
            { s.link with
              state := .seeking, confCount := 0, lossCount := 0, heard := false, helloDue := true
              helloTimer := .running s.params.tHello, intervalTimer := .stopped, holdOffTimer := .stopped } }
        .linkChange
    let again : State := { s with link := { s.link with intervalTimer := .running s.params.tHello } }
    let missed : State := { again with link := { again.link with lossCount := s.link.lossCount + 1 } }
    s.resetAsserted = false →
    (s.link.helloTimer = .running n →
      exec .helloTimerExpiry s =
        .next
          { s with
            link :=
              { s.link with
                helloDue := true
                helloTimer :=
                  if s.link.state = .seeking ∨ s.link.state = .confirming then .running s.params.tHello
                  else .stopped } }) ∧
    (s.link.intervalTimer = .running n → s.link.heard = true →
      exec .intervalTimerExpiry s =
        .next { again with link := { again.link with heard := false, lossCount := 0 } }) ∧
    (s.link.intervalTimer = .running n → s.link.heard = false → s.link.state = .confirming ∨ s.link.state = .up →
      exec .intervalTimerExpiry s =
        .next
          (if s.link.lossCount + 1 < s.params.nLoss then missed
          else if s.link.state = .confirming then seeking
          else missed.leaveUp .helloTimeout)) ∧
    (s.link.holdOffTimer = .running n → s.link.state = .lost → exec .holdOffTimerExpiry s = .next seeking) ∧
    (s.ReceiverLaw → s.Closing k → s.link.state = .up → s.link.intervalTimer = .running n → s.link.heard = false →
      s.params.nLoss ≤ s.link.lossCount + 1 →
      let lost := s.after .intervalTimerExpiry
      lost.link.state = .lost ∧ lost.link.lastCause = .helloTimeout ∧
        exec (closingMarker k) lost =
          .next
            { lost with
              framer :=
                { lost.framer with
                  rxState := .between
                  watch := if s.framer.watch = .reported then .running else s.framer.watch } } ∧
        (k = some .ack → s.framer.valid = true → s.engine.acceptable s.framer.ackField = true →
          let heard := (s.after .ackFrameReceived).after .intervalTimerExpiry
          heard.link.state = .up ∧ heard.link.heard = false ∧ heard.link.lossCount = 0))

/-- R53: the flush timer's expiry fails every waiting frame of every port with LINK_DOWN, in queue order, stops the timer
and sets the flushed condition. With the level of POOL_LOW recorded as it stands (R15), a port has TX_DONE for its
records and no other event; the halting of the peer ends when cells were freed and shared free has reached P11 (R113).
Nothing else changes. -/
def Obligations.FlushExpiry : Prop :=
  ∀ (s : State) (n : Nat) (q : Port),
    s.resetAsserted = false → s.link.flushTimer = .running n →
    let waiting : List Frame := Port.all.flatMap fun r => (s.port r).queue
    ∃ t, exec .flushTimerExpiry s = .next t ∧
      t.port q =
        { s.port q with
          holdings := (s.port q).holdings - cellsOf (s.port q).queue, queue := []
          cpl := (s.port q).cpl.convert .linkDown (s.port q).queue, events := (t.port q).events } ∧
      (s.LevelLaw →
        (t.port q).events =
            (s.port q).events.raised (Event.txDone.bitIf ((s.port q).queue.any Frame.notifies)) ∧
          t.pool.level = t.levelNow) ∧
      t.pool.free = s.pool.free + cellsOf waiting ∧
      t.pool.freeCells.Perm (s.pool.freeCells ++ cellList waiting) ∧
      t = { s with
            pool := { s.pool with free := t.pool.free, freeCells := t.pool.freeCells, level := t.pool.level }
            ports := t.ports, link := { s.link with flushTimer := .stopped, flushed := true }
            engine := s.engine.letGo (!waiting.isEmpty && s.params.resume ≤ t.sharedFree) }

/-- R104 and R99: the ack timer's expiry raises the head's retry count and starts a round from it, or reports the retry
limit; the ack-delay timer's expiry makes the ACK due. -/
def Obligations.AckTimers : Prop :=
  ∀ (s : State) (n : Nat) (x : WindowEntry) (rest : List WindowEntry),
    s.resetAsserted = false →
    (s.WindowLaw → s.engine.ackTimer = .running n → s.engine.window = x :: rest →
      exec .ackTimerExpiry s =
        .next
          (if s.params.nRetry ≤ x.retry then s.leaveUp .retryLimit
          else
            { s with
              engine :=
                { s.engine with
                  window := { x with retry := x.retry + 1 } :: rest
                  round := some { origin := x.seq, next := x.seq }
                  ackTimer := .running s.params.tAck } })) ∧
    (s.engine.ackDelay = .running n →
      exec .ackDelayTimerExpiry s = .next { s with engine := { s.engine with ackDelay := .expired } })

/-! ### The receive line -/

/-- R58, R59, R67, R71, R73: markers and octets outside a frame, and the 519th octet; the row of a closing marker, which a
hunting or discarding receiver takes as a marker alone; log 5, log 11 and log 12 for the marker octet and these rows. -/
def Obligations.ReceiverOutsideFrames : Prop :=
  ∀ (s : State) (o : Byte) (k : Option FrameType),
    let clocked : State :=
      { s with
        framer :=
          { s.framer with
            watch := if s.framer.watch = .reported then .running else s.framer.watch, cut := false } }
    s.resetAsserted = false →
    exec .rckClockReturn s = .next clocked ∧
    (s.framer.rxState = .hunting ∨ s.framer.rxState = .discarding →
      exec .rxMarkerFound s =
          .next { clocked with framer := { clocked.framer with rxState := .between } } ∧
        exec (.rxFrameOctet Config.marker) s =
          .next { clocked with framer := { clocked.framer with rxState := .between } } ∧
        (o ≠ Config.marker → exec (.rxFrameOctet o) s = .next clocked) ∧
        ((k = some .hello → ¬s.ClosingHello) →
          exec (closingMarker k) s =
            .next { clocked with framer := { clocked.framer with rxState := .between } })) ∧
    (s.framer.rxState = .ignoring ∨ s.framer.rxState = .between ∨
        (s.framer.rxState = .receiving ∧ s.framer.type? ≠ k) →
      (k = some .hello → ¬s.ClosingHello) → exec (closingMarker k) s = .next s) ∧
    (s.framer.rxState = .ignoring → exec (.rxFrameOctet o) s = .next s) ∧
    (s.framer.rxState = .between → exec (.rxFrameOctet Config.marker) s = .next clocked) ∧
    (s.framer.rxState = .between → o ≠ Config.marker →
      exec (.rxFrameOctet o) s =
        exec (.rxFrameOctet o)
          { s with
            framer :=
              { s.framer with
                rxState := .receiving, escPending := false, badEscape := false, count := 0, header := []
                hold := [], crc := 0xFFFF#16, admission := .notAdmitted, stored := [] } }) ∧
    (s.framer.rxState = .receiving →
      exec (.rxFrameOctet Config.marker) s = exec (closingMarker s.framer.type?) s) ∧
    (s.framer.rxState = .receiving → s.framer.count = 518 → o ≠ Config.marker →
      s.framer.escPending = true ∨ o ≠ Config.escape →
      ∃ t, exec (.rxFrameOctet o) s = .next t ∧ t.framer.rxState = .hunting ∧
        t.framer.invalidCount =
          (if s.framer.invalidCount < 65535 then s.framer.invalidCount + 1 else s.framer.invalidCount) ∧
        t.framer.stored = [] ∧ t.framer.tx = s.framer.tx ∧ t.framer.closing = s.framer.closing ∧
        (∀ q, t.port q =
          { s.port q with
            events :=
              (s.port q).events.raised (Event.poolLow.bitIf (s.pool.inbound != 0 && fellLow s t)) }) ∧
        t = { s with
              framer := t.framer, ports := t.ports
              pool :=
                { free := s.pool.free + s.pool.inbound, inbound := 0
                  freeCells := s.pool.freeCells ++ s.pool.inboundCells, inboundCells := []
                  level := if s.pool.inbound = 0 then s.pool.level else t.levelNow }
              engine := s.engine.letGo (s.pool.inbound != 0 && s.params.resume ≤ t.sharedFree) })

/-- R61, R62, R70, R8, R9, R111: one line octet of a frame: unescaped, counted and checked; the header, admission at the
fourth octet, the hold stage, and the inbound claim of an octet that starts a new cell. -/
def Obligations.ReceivedOctet : Prop :=
  ∀ (s : State) (o : Byte),
    s.resetAsserted = false → s.framer.rxState = .receiving → o ≠ Config.marker → s.framer.count < 518 →
    let watch : Watch := if s.framer.watch = .reported then .running else s.framer.watch
    (s.framer.escPending = false → o = Config.escape →
      exec (.rxFrameOctet o) s =
        .next { s with framer := { s.framer with watch := watch, cut := false, escPending := true } }) ∧
    (s.framer.escPending = true ∨ o ≠ Config.escape →
      exec (.rxFrameOctet o) s =
        .next
          (let b : Byte := if s.framer.escPending = true then o ^^^ 0x40#8 else o
          let g : Framer :=
            { s.framer with
              watch := watch, cut := false, escPending := false
              badEscape :=
                s.framer.badEscape || (s.framer.escPending && o != 0xE9#8 && o != 0xE8#8)
              count := s.framer.count + 1, crc := checkOctet s.framer.crc b
              header := if s.framer.header.length < 4 then s.framer.header ++ [b] else s.framer.header }
          if g.type? ≠ some .data ∨ g.count < 4 then { s with framer := g }
          else if g.count = 4 then
            { s with
              framer :=
                { g with
                  admission :=
                    if s.link.state = .up ∧ (g.headerOctet 1).extractLsb' 4 4 = s.engine.vr ∧
                        s.engine.haltingPeer = false then .admitted
                    else .notAdmitted } }
          else
            match g.hold with
            | [x, y] =>
              let h : Framer := { g with hold := [y, b] }
              if g.admission ≠ .admitted then { s with framer := h }
              else if g.stored.length % 64 ≠ 0 then { s with framer := { h with stored := g.stored ++ [x] } }
              else if 1 + s.reservations ≤ s.pool.free then
                let drawn := drawCells s.freeTick 1 s.pool.freeCells
                State.settlePool
                  { s with
                    framer := { h with stored := g.stored ++ [x] }
                    freeTick := s.freeTick + 1
                    pool :=
                      { s.pool with
                        free := s.pool.free - 1, inbound := s.pool.inbound + 1, freeCells := drawn.2
                        inboundCells := s.pool.inboundCells ++ drawn.1 } }
              else
                let abandoned := State.releaseInbound { s with framer := h }
                { abandoned with
                  framer := { abandoned.framer with admission := .abandoned }
                  engine := { s.engine with haltingPeer := true, flowOwed := .halt } }
            | l => { s with framer := { g with hold := l ++ [b] } }))

/-- R95, R96, R103, R105: an acceptable acknowledgement number removes the entries before it from the head: their cells
are freed, or held to the end of the transmission of the one on the line, and their slots converted with ACKED; the ack
timer restarts for a new head or stops, and a round over an emptied window ends. With the level of POOL_LOW recorded as
it stands (R15), a port has TX_DONE for its records and no other event; the halting of the peer ends when cells were
freed and shared free has reached P11 (R113). A valid ACK in UP is heard and does that and nothing else. -/
def Obligations.Acknowledgement : Prop :=
  ∀ (s : State) (n : Seq) (q : Port),
    (s.OnLineLaw → (n - s.engine.va).toNat ≤ s.engine.window.length →
      let t := s.acknowledge n
      let k := (n - s.engine.va).toNat
      let gone := s.engine.window.take k
      let rest := s.engine.window.drop k
      let off := gone.filter (!·.onLine)
      s.engine.acceptable n = true ∧
      t.port q =
        { s.port q with
          holdings := (s.port q).holdings - entryCells off q
          cpl := (s.port q).cpl.convert .acked (reportedFrames gone q), events := (t.port q).events } ∧
      (s.LevelLaw →
        (t.port q).events =
            (s.port q).events.raised (Event.txDone.bitIf ((reportedFrames gone q).any Frame.notifies)) ∧
          t.pool.level = t.levelNow) ∧
      t.pool.free = s.pool.free + cellsOf (off.map (·.frame)) ∧
      t.pool.freeCells.Perm (s.pool.freeCells ++ cellList (off.map (·.frame))) ∧
      t.framer =
        { s.framer with
          tx :=
            match s.framer.tx, gone.find? (·.onLine) with
            | .sending x, some e => .sending { x with held := some (e.owner, e.frame) }
            | tx, _ => tx } ∧
      t.engine =
        Engine.letGo
        { s.engine with
          window := rest
          ackTimer :=
            if rest = [] then .stopped
            else if 0 < k ∧ s.engine.peerHalted = false then .running s.params.tAck
            else s.engine.ackTimer
          round := if rest = [] then none else s.engine.round }
        (!off.isEmpty && s.params.resume ≤ t.sharedFree) ∧
      t = { s with
            pool := { s.pool with free := t.pool.free, freeCells := t.pool.freeCells, level := t.pool.level }
            ports := t.ports, framer := t.framer, engine := t.engine }) ∧
    (s.Closing (some .ack) → s.framer.valid = true → s.link.state = .up →
      s.engine.acceptable s.framer.ackField = true →
      exec .ackFrameReceived s = .next s.heardAndAcknowledged)

/-- R97, R98, R99, R112: a valid DATA frame in UP with an acceptable number: a stored one is accepted and looked up; of
one that is not stored, the sequence number and the indication decide what is owed. A frame that is not stored holds no
cells, which the statement assumes. -/
def Obligations.DataFrames : Prop :=
  ∀ (s : State),
    s.Closing (some .data) → s.framer.valid = true → s.link.state = .up →
    s.engine.acceptable s.framer.ackField = true →
    let a := s.heardAndAcknowledged
    let oweAck : Engine → Engine := fun e =>
      if e.ackOwed = true then e
      else { e with ackOwed := true, ackDelay := if s.params.tDly = 0 then .expired else .running s.params.tDly }
    let oweReject : Engine → Engine := fun e =>
      if e.rejectOutstanding = true then e else { e with rejectOwed := true, rejectOutstanding := true }
    (s.framer.admission = .admitted →
      exec .dataFrameReceived s =
        .next
          (State.classify
            { a with
              framer := { a.framer with stored := [] }
              pool := { a.pool with inboundCells := [] }
              engine :=
                oweAck { a.engine with vr := s.engine.vr + 1, rejectOutstanding := false, rejectOwed := false } }
            { cells := s.pool.inboundCells, length := s.framer.stored.length, payload := s.framer.stored, origin := .trunk, state := .delivered
              cls := some s.framer.classField, address := some s.framer.addressField, tag := none, notify := none
              refs := none, payer := none }
            s.framer.addressField)) ∧
    (s.framer.admission ≠ .admitted → s.framer.stored = [] → s.pool.inbound = 0 → s.pool.inboundCells = [] →
      let behind := (s.engine.vr - s.framer.seqField).toNat
      exec .dataFrameReceived s =
        .next
          (if 1 ≤ behind ∧ behind ≤ 7 then { a with engine := oweAck a.engine }
          else if 8 ≤ behind then { a with engine := oweReject a.engine }
          else if s.framer.admission = .abandoned then a
          else if a.engine.haltingPeer = true then { a with engine := { a.engine with flowOwed := .halt } }
          else { a with engine := oweReject a.engine }))

/-- R106, R108, R110: a valid REJECT, HALT or GO in UP with an acceptable number acknowledges first, then acts. -/
def Obligations.RejectHaltGo : Prop :=
  ∀ (s : State) (k : FrameType) (x : WindowEntry) (rest : List WindowEntry),
    s.Closing (some k) → s.framer.valid = true → s.link.state = .up → s.WindowLaw →
    s.engine.acceptable s.framer.ackField = true →
    let n := s.framer.ackField
    let a := s.heardAndAcknowledged
    (k = .reject →
      s.engine.peerHalted = true ∨ n = s.engine.vs ∨ a.engine.round.map (·.origin) = some n →
      exec .rejectFrameReceived s = .next a) ∧
    (k = .reject → s.engine.peerHalted = false → a.engine.round.map (·.origin) ≠ some n →
      a.engine.window = x :: rest →
      exec .rejectFrameReceived s =
        .next
          (if s.params.nRetry ≤ x.retry then a.leaveUp .retryLimit
          else
            { a with
              engine :=
                { a.engine with
                  window := { x with retry := x.retry + 1 } :: rest
                  round := some { origin := n, next := n }, ackTimer := .running s.params.tAck } })) ∧
    (k = .halt →
      exec .haltFrameReceived s =
        .next
          { a with
            engine :=
              { a.engine with
                peerHalted := true, round := none, ackTimer := .stopped
                haltTimer :=
                  if s.engine.haltTimer = .stopped then .running s.params.tHalt else s.engine.haltTimer } }) ∧
    (k = .go →
      exec .goFrameReceived s =
        .next
          { a with
            engine :=
              { a.engine with
                peerHalted := false, haltTimer := .stopped
                round :=
                  if a.engine.window = [] then a.engine.round
                  else some { origin := n, next := n }
                ackTimer :=
                  if a.engine.window = [] then a.engine.ackTimer else .running s.params.tAck } })

/-- R67, R63: the framer's tests of a closed frame; R95: the test of an acknowledgement number. R68, R69, R10: a frame
that fails one of them, or in UP the test of its acknowledgement number, is discarded whole and counted, and nothing
else happens. -/
def Obligations.InvalidFrames : Prop :=
  ∀ (s : State) (k : Option FrameType) (n : Seq),
    (s.engine.acceptable n = true ↔
      (n - (match s.engine.window with
        | [] => s.engine.vs
        | e :: _ => e.seq)).toNat ≤ s.engine.window.length) ∧
    (s.framer.valid = true ↔
      s.framer.escPending = false ∧ s.framer.badEscape = false ∧ s.framer.crc = 0x1D0F#16 ∧
        ∃ kind, s.framer.type? = some kind ∧
          if kind = .data then 7 ≤ s.framer.count
          else if kind = .hello then s.framer.count = 5
          else s.framer.count = 4) ∧
    (s.Closing k →
      k = none ∨ s.framer.valid = false ∨
        (s.link.state = .up ∧ k ≠ some .hello ∧ s.engine.acceptable s.framer.ackField = false) →
      exec (closingMarker k) s =
        .next
          (let counted : State :=
            { s.atMarker with
              framer :=
                { s.atMarker.framer with
                  stored := []
                  invalidCount :=
                    if s.framer.invalidCount < 65535 then s.framer.invalidCount + 1
                    else s.framer.invalidCount } }
          let returned : State :=
            { counted with
              pool :=
                { s.pool with
                  free := s.pool.free + s.pool.inbound, inbound := 0
                  freeCells := s.pool.freeCells ++ s.pool.inboundCells, inboundCells := [] } }
          if s.pool.inbound = 0 then returned else returned.settlePool))

/-! ### The transmit line -/

/-- R46: the winner of an arbitration: of the candidates with the lowest effective class, the first met from the port
after the pointer. -/
def Obligations.ArbitrationWinner : Prop :=
  ∀ (s : State) (w : Port),
    let rank : Port → Option Nat := fun q =>
      (s.port q).queue.head?.map fun f => (f.cls.getD 0).val + if (s.port q).deferred = true then 1 else 0
    let tied : Port → Prop := fun q =>
      ∃ c ∈ rank q, ∀ r : Port, ∀ d ∈ rank r, c ≤ d
    let place : Port → Nat := fun q => (q.toNat + 3 - s.pointer.toNat) % 4
    (s.winner = some w ↔ tied w ∧ ∀ q : Port, tied q → place w ≤ place q) ∧
    (s.winner = none ↔ ∀ q : Port, (s.port q).queue = [])

/-- R45, R47, R48, R102, R103: an arbitration under its conditions: deference flags and pointer, the winner's head frame
at the tail of the window under V(S), and its transmission as a DATA frame (R178). With any of the conditions of R45 not
met there is no arbitration, and nothing happens (log 17). -/
def Obligations.Arbitration : Prop :=
  ∀ (s : State) (w q : Port) (f : Frame) (rest : List Frame),
    (s.resetAsserted = true ∨ s.framer.tx ≠ .idle ∨ s.link.state ≠ .up ∨ s.engine.peerHalted = true ∨
        s.params.w ≤ s.engine.window.length ∨ s.engine.round ≠ none ∨ s.engine.flowOwed ≠ .none ∨
        s.engine.rejectOwed = true ∨ (∀ r : Port, (s.port r).queue = []) →
      exec .arbitration s = .next s) ∧
    (s.resetAsserted = false → s.framer.tx = .idle → s.link.state = .up → s.engine.peerHalted = false →
    s.engine.window.length < s.params.w → s.engine.round = none → s.engine.flowOwed = .none →
    s.engine.rejectOwed = false → s.winner = some w → (s.port w).queue = f :: rest →
    ∃ t, exec .arbitration s = .next t ∧
      t.port q =
        { s.port q with
          deferred := (q == w) && (Port.all.any fun r => r != w && !(s.port r).queue.isEmpty)
          queue := if q = w then rest else (s.port q).queue } ∧
      t = { s with
            ports := t.ports, pointer := w
            framer :=
              { s.framer with
                tx :=
                  .sending
                    { kind := .data
                      octets :=
                        withCheck
                          ([0x1#4 ++ BitVec.ofNat 4 (f.cls.getD 0).val, s.engine.vs ++ s.engine.vr] ++
                            octets16 (f.address.getD 0) ++ f.payload)
                      held := none } }
            link := { s.link with helloDue := false, helloTimer := .stopped }
            engine :=
              { s.engine with
                window :=
                  s.engine.window ++
                    [{ seq := s.engine.vs, frame := { f with state := .inWindow }, owner := w, retry := 0
                       orphan := false, onLine := true }]
                vs := s.engine.vs + 1, ackOwed := false, ackDelay := .stopped
                ackTimer :=
                  if s.engine.window = [] then .running s.params.tAck else s.engine.ackTimer } })

/-- R105, R102, R101: the next frame of a round, which does not start where it is not at its turn: off a frame boundary,
outside UP, with the peer halted, without a round, or with a flow frame or a REJECT owed (log 17). R65, R76, R94, R4: the
end of a transmission. -/
def Obligations.RoundAndEndOfTransmission : Prop :=
  ∀ (s : State) (r : Round) (x : WindowEntry) (y : Transmission),
    (s.resetAsserted = true ∨ s.framer.tx ≠ .idle ∨ s.link.state ≠ .up ∨ s.engine.peerHalted = true ∨
        s.engine.round = none ∨ s.engine.window = [] ∨ s.engine.flowOwed ≠ .none ∨ s.engine.rejectOwed = true →
      exec .roundDataSend s = .next s) ∧
    (s.resetAsserted = true ∨ s.framer.tx = .idle → exec .transmissionEnd s = .next s) ∧
    (s.resetAsserted = false →
      s.framer.tx = .idle → s.link.state = .up → s.engine.peerHalted = false → s.engine.round = some r →
      s.engine.flowOwed = .none → s.engine.rejectOwed = false →
      (s.engine.window.find? (·.seq == r.next)).or s.engine.window.head? = some x →
      exec .roundDataSend s =
        .next
          { s with
            framer :=
              { s.framer with
                tx :=
                  .sending
                    { kind := .data
                      octets :=
                        withCheck
                          ([0x1#4 ++ BitVec.ofNat 4 (x.frame.cls.getD 0).val, x.seq ++ s.engine.vr] ++
                            octets16 (x.frame.address.getD 0) ++ x.frame.payload)
                      held := none } }
            link := { s.link with helloDue := false, helloTimer := .stopped }
            engine :=
              { s.engine with
                window :=
                  s.engine.window.map fun e => if e.seq = x.seq then { e with onLine := true } else e
                retransCount :=
                  if s.engine.retransCount < 65535 then s.engine.retransCount + 1 else s.engine.retransCount
                round :=
                  if x.seq = s.engine.vs - 1 then none else some { origin := r.origin, next := x.seq + 1 }
                ackOwed := false, ackDelay := .stopped } }) ∧
    (s.resetAsserted = false → s.framer.tx = .sending y →
      exec .transmissionEnd s =
        .next
          (let ended : State :=
            { s with
              framer := { s.framer with tx := .idle, closing := [Config.marker] }
              link :=
                if s.link.state = .up then { s.link with helloTimer := .running s.params.tHello } else s.link
              engine :=
                { s.engine with window := s.engine.window.map fun e => { e with onLine := false } } }
          match y.held with
          | some (p, g) => ended.cellsBack p g id
          | none => ended))

/-- R100, R101, R102, R76, R64, R178: the frames without payload: when each starts, its octets, and what its start
changes; a frame that is not owed, not at a frame boundary, or outranked does not start, and nothing happens (log 17). -/
def Obligations.ShortFrames : Prop :=
  ∀ (s : State),
    let idleUp : Prop := s.resetAsserted = false ∧ s.framer.tx = .idle ∧ s.link.state = .up
    let sent : FrameType → BitVec 4 → Engine → State := fun kind code e =>
      { s with
        framer :=
          { s.framer with
            tx := .sending { kind := kind, octets := withCheck [code ++ 0x0#4, 0x0#4 ++ s.engine.vr], held := none } }
        link := { s.link with helloDue := false, helloTimer := .stopped }
        engine := { e with ackOwed := false, ackDelay := .stopped } }
    let noData : Prop :=
      s.engine.flowOwed = .none ∧ s.engine.rejectOwed = false ∧
        (s.engine.round = none ∨ s.engine.peerHalted = true ∨ s.engine.window = []) ∧
        (s.engine.peerHalted = true ∨ s.engine.round ≠ none ∨ s.params.w ≤ s.engine.window.length ∨
          ∀ q, (s.port q).queue = [])
    let ackDue : Prop := s.engine.ackOwed = true ∧ s.engine.ackDelay = .expired
    let helloTurn : Prop :=
      s.link.state = .seeking ∨ s.link.state = .confirming ∨ (s.link.state = .up ∧ noData ∧ ¬ackDue)
    (idleUp → s.engine.flowOwed = .halt →
      exec .haltSend s = .next (sent .halt 0x4#4 { s.engine with flowOwed := .none })) ∧
    (idleUp → s.engine.flowOwed = .go →
      exec .goSend s = .next (sent .go 0x5#4 { s.engine with flowOwed := .none })) ∧
    (idleUp → s.engine.flowOwed = .none → s.engine.rejectOwed = true →
      exec .rejectSend s = .next (sent .reject 0x3#4 { s.engine with rejectOwed := false })) ∧
    (idleUp → noData → ackDue → exec .ackSend s = .next (sent .ack 0x2#4 s.engine)) ∧
    (¬idleUp ∨ s.engine.flowOwed ≠ .halt → exec .haltSend s = .next s) ∧
    (¬idleUp ∨ s.engine.flowOwed ≠ .go → exec .goSend s = .next s) ∧
    (¬idleUp ∨ s.engine.flowOwed ≠ .none ∨ s.engine.rejectOwed = false → exec .rejectSend s = .next s) ∧
    (¬idleUp ∨ ¬noData ∨ ¬ackDue → exec .ackSend s = .next s) ∧
    (s.resetAsserted = true ∨ s.framer.tx ≠ .idle ∨ s.link.helloDue = false ∨ ¬helloTurn →
      exec .helloSend s = .next s) ∧
    (s.resetAsserted = false → s.framer.tx = .idle → s.link.helloDue = true → helloTurn →
      exec .helloSend s =
        .next
          { s with
            framer :=
              { s.framer with
                tx :=
                  .sending
                    { kind := .hello
                      octets :=
                        withCheck
                          [if s.link.state = .seeking then 0x60#8 else 0x61#8, 0x00#8,
                            BitVec.ofNat 8 s.params.station]
                      held := none } }
            link :=
              { s.link with
                helloDue := false
                helloTimer := if s.link.state = .up then .stopped else s.link.helloTimer } })

/-! ### The check and the framing -/

/-- R62: a frame sent with its check octets passes the check at the receiver: the register holds 0x1D0F after them. -/
def Obligations.CheckResidue : Prop := ∀ (l : List Byte), checkOf (withCheck l) = 0x1D0F#16

/-- R59, R60, R61, R62, R63, R67, R70, R178: what the transmitter puts on the line, the receiver takes off it: the line
octets of a DATA, a short or a HELLO frame, received between two markers by a part whose receiver is BETWEEN, form a
frame that passes the framer's tests with the fields it was sent with; an admitted DATA frame that finds the cells it
needs is stored whole. -/
def Obligations.FramesAreReceivedAsSent : Prop :=
  ∀ (s : State) (f : Frame) (cls : Fin 4) (address : Word) (seq ack : Seq) (seen : Bool) (station : Byte)
    (short : FrameType) (code : BitVec 4),
    s.framer.rxState = .between →
    (f.cls = some cls → f.address = some address → 1 ≤ f.payload.length → f.payload.length ≤ 512 →
      let t := (lineOctets (dataOctets f seq ack)).foldl State.lineOctet s
      t.framer.rxState = .receiving ∧ t.framer.type? = some .data ∧ t.framer.valid = true ∧
        t.framer.classField = cls ∧ t.framer.seqField = seq ∧ t.framer.ackField = ack ∧
        t.framer.addressField = address ∧
        (s.link.state = .up → s.engine.vr = seq → s.engine.haltingPeer = false →
          8 + s.reservations ≤ s.pool.free →
          t.framer.admission = .admitted ∧ t.framer.stored = f.payload)) ∧
    ((short, code) ∈ [(FrameType.ack, 0x2#4), (.reject, 0x3#4), (.halt, 0x4#4), (.go, 0x5#4)] →
      let t := (lineOctets (shortOctets code ack)).foldl State.lineOctet s
      t.framer.rxState = .receiving ∧ t.framer.type? = some short ∧ t.framer.valid = true ∧
        t.framer.ackField = ack) ∧
    (let t := (lineOctets (helloOctets seen station)).foldl State.lineOctet s
    t.framer.rxState = .receiving ∧ t.framer.type? = some .hello ∧ t.framer.valid = true ∧
      t.framer.seenField = seen ∧ t.framer.stationField = station)

/-! ### Invariants and rules of the whole part -/

/-- R171: every step keeps the interrupt lines in step with flags and masks. -/
def Obligations.StepKeepsInterruptLaw : Prop :=
  ∀ (s t : State), s.InterruptLaw → step s = .next t → t.InterruptLaw

/-- R150, R151: every step keeps the law on the lease. -/
def Obligations.StepKeepsLeaseLaw : Prop := ∀ (s t : State), s.LeaseLaw → step s = .next t → t.LeaseLaw

/-- R5, R17, R136, R142, R160: every step keeps parameters, quotas, marks and receive lists in their ranges. -/
def Obligations.StepKeepsSettingsLaws : Prop :=
  ∀ (s t : State), s.SettingsLaws → step s = .next t → t.SettingsLaws

/-- R117, R118: every step keeps the law on the address tables; the statistics counters stay in 16 bits. -/
def Obligations.StepKeepsTableLaw : Prop :=
  ∀ (s t : State), s.TableLaw → s.CounterLaw → step s = .next t → t.TableLaw ∧ t.CounterLaw

/-- R15: every step keeps the recorded level of POOL_LOW equal to that of shared free. -/
def Obligations.StepKeepsLevelLaw : Prop := ∀ (s t : State), s.LevelLaw → step s = .next t → t.LevelLaw

/-- R52, R58, R70, R73, R76 to R78, R93, R114: every step keeps what link, timers, receiver, window and transfer engine
agree on. -/
def Obligations.StepKeepsLinkLaws : Prop := ∀ (s t : State), s.LinkLaws → step s = .next t → t.LinkLaws

/-- R1, R2, R3, R10, R14, R21, R29, R41, R136: every step keeps the accounts of the part, cell by cell. -/
def Obligations.StepKeepsAccountLaws : Prop :=
  ∀ (s t : State), s.AccountLaws → step s = .next t → t.AccountLaws

/-- R75, R92: whatever changes the link state raises LINK_CHANGE on all four ports; a device reset raises nothing. -/
def Obligations.LinkChangeIsRaised : Prop :=
  ∀ (s t : State) (c : Instr) (q : Port),
    exec c s = .next t → c ≠ .deviceReset → t.link.state ≠ s.link.state → t.flagged q .linkChange

/-- R159, R160, R17, R118, R79, R80: the shared settings change, and the trunk is turned on and off, by the lease holder's
management commands and a device reset alone. That a part whose trunk is off stays so rests on what link, timers and
receiver agree on. -/
def Obligations.SharedSettingsNeedTheLease : Prop :=
  ∀ (s t : State) (c : Instr) (q : Port),
    exec c s = .next t → c ≠ .deviceReset →
    ¬((s.codeOf c).any isManagementCode = true ∧ ∃ p ∈ c.port?, s.lease.holder = some p) →
    t.params = s.params ∧ (t.port q).floor = (s.port q).floor ∧ (t.port q).ceiling = (s.port q).ceiling ∧
      t.classifier.active.map (·.entry) = s.classifier.active.map (·.entry) ∧
      (t.link.state = .off → s.link.state = .off) ∧
      (s.LinkLaws → s.link.state = .off → t.link.state = .off)

/-- R27, R142, R165, R167, R171: commands of other ports and events of the trunk and the timers reach neither a port's
build slot nor its mask, marks, previous result and transaction, and take no record from its lists. -/
def Obligations.PortsAreIndependent : Prop :=
  ∀ (s t : State) (c : Instr) (q : Port),
    exec c s = .next t → c ≠ .deviceReset → c.port? ≠ some q →
    (t.port q).slot = (s.port q).slot ∧ (t.port q).events.mask = (s.port q).events.mask ∧
      (s.port q).events.flags &&& ~~~(t.port q).events.flags = 0#11 ∧
      (t.port q).rx.high = (s.port q).rx.high ∧ (t.port q).rx.low = (s.port q).rx.low ∧
      (s.port q).rx.records <+: (t.port q).rx.records ∧ (s.port q).cpl.records <+: (t.port q).cpl.records ∧
      (t.port q).prevResult = (s.port q).prevResult ∧ (t.port q).txn = (s.port q).txn ∧
      (t.port q).out = (s.port q).out ∧ (t.port q).reply = (s.port q).reply

end
end

