-- ==== Sys2Proof/Laws/State.lean ====
section
/-! SUPPORT. The small lemmas of State: what each update of it leaves as it was, field by field, and how a port's state is
read after an update. -/

namespace Sys2Proof.Machine

/-! ### Ports -/

@[simp] theorem PerPort.get_set_same {α : Type} (v : PerPort α) (p : Port) (a : α) : (v.set p a).get p = a := by
  cases p <;> rfl

theorem PerPort.get_set_ne {α : Type} (v : PerPort α) {p q : Port} (a : α) (h : q ≠ p) :
    (v.set p a).get q = v.get q := by
  cases p <;> cases q <;> first | rfl | exact absurd rfl h

theorem PerPort.get_set {α : Type} (v : PerPort α) (p q : Port) (a : α) :
    (v.set p a).get q = if q = p then a else v.get q := by
  cases p <;> cases q <;> rfl

@[simp] theorem PerPort.set_get {α : Type} (v : PerPort α) (p : Port) : v.set p (v.get p) = v := by
  cases p <;> rfl

@[simp] theorem PerPort.set_set {α : Type} (v : PerPort α) (p : Port) (a b : α) : (v.set p a).set p b = v.set p b := by
  cases p <;> rfl

@[simp] theorem PerPort.get_map {α : Type} (v : PerPort α) (f : α → α) (p : Port) : (v.map f).get p = f (v.get p) := by
  cases p <;> rfl

theorem PerPort.ext_get {α : Type} {v w : PerPort α} (h : ∀ p, v.get p = w.get p) : v = w := by
  cases v; cases w
  have h0 := h .p0; have h1 := h .p1; have h2 := h .p2; have h3 := h .p3
  simp only [PerPort.get] at h0 h1 h2 h3
  subst h0 h1 h2 h3; rfl

theorem State.port_modPort (s : State) (p q : Port) (f : PortState → PortState) :
    (s.modPort p f).port q = if q = p then f (s.port q) else s.port q := by
  cases p <;> cases q <;> rfl

@[simp] theorem State.port_modPort_same (s : State) (p : Port) (f : PortState → PortState) :
    (s.modPort p f).port p = f (s.port p) := by
  cases p <;> rfl

theorem State.port_modPort_ne (s : State) {p q : Port} (f : PortState → PortState) (h : q ≠ p) :
    (s.modPort p f).port q = s.port q := by
  rw [State.port_modPort, if_neg h]

theorem State.modPort_modPort (s : State) (p : Port) (f g : PortState → PortState) :
    (s.modPort p f).modPort p g = s.modPort p fun ps => g (f ps) := by
  cases p <;> rfl

theorem State.modPort_congr {s : State} {p : Port} {f g : PortState → PortState} (h : f (s.port p) = g (s.port p)) :
    s.modPort p f = s.modPort p g := by
  unfold State.port at h
  unfold State.modPort
  rw [h]

@[simp] theorem State.modPort_id (s : State) (p : Port) : (s.modPort p fun ps => ps) = s := by
  cases p <;> rfl

@[simp] theorem State.port_raiseAll (s : State) (e : Event) (q : Port) :
    (s.raiseAll e).port q = (s.port q).raise e := by
  cases q <;> rfl

/-! ### Raising an event leaves the rest of a port -/

@[simp] theorem PortState.raise_holdings (ps : PortState) (e : Event) : (ps.raise e).holdings = ps.holdings := rfl

@[simp] theorem PortState.raise_floor (ps : PortState) (e : Event) : (ps.raise e).floor = ps.floor := rfl

@[simp] theorem PortState.raise_ceiling (ps : PortState) (e : Event) : (ps.raise e).ceiling = ps.ceiling := rfl

@[simp] theorem PortState.raise_slot (ps : PortState) (e : Event) : (ps.raise e).slot = ps.slot := rfl

@[simp] theorem PortState.raise_queue (ps : PortState) (e : Event) : (ps.raise e).queue = ps.queue := rfl

@[simp] theorem PortState.raise_deferred (ps : PortState) (e : Event) : (ps.raise e).deferred = ps.deferred := rfl

@[simp] theorem PortState.raise_rx (ps : PortState) (e : Event) : (ps.raise e).rx = ps.rx := rfl

@[simp] theorem PortState.raise_cpl (ps : PortState) (e : Event) : (ps.raise e).cpl = ps.cpl := rfl

@[simp] theorem PortState.raise_prevResult (ps : PortState) (e : Event) : (ps.raise e).prevResult = ps.prevResult := rfl

@[simp] theorem PortState.raise_txn (ps : PortState) (e : Event) : (ps.raise e).txn = ps.txn := rfl

@[simp] theorem PortState.raise_out (ps : PortState) (e : Event) : (ps.raise e).out = ps.out := rfl

@[simp] theorem PortState.raise_reply (ps : PortState) (e : Event) : (ps.raise e).reply = ps.reply := rfl

@[simp] theorem EventUnit.raise_mask (u : EventUnit) (e : Event) : (u.raise e).mask = u.mask := rfl

@[simp] theorem EventUnit.raise_flags (u : EventUnit) (e : Event) : (u.raise e).flags = u.flags ||| e.bit := rfl

@[simp] theorem EventUnit.refresh_pending (u : EventUnit) : u.refresh.irq = u.refresh.pending := rfl

/-! ### What each operation leaves of the state -/

@[simp] theorem State.modPort_pool (s : State) (p : Port) (f : PortState → PortState) : (s.modPort p f).pool = s.pool :=
    rfl

@[simp] theorem State.modPort_frames (s : State) (p : Port) (f : PortState → PortState) : (s.modPort p f).frames = s.frames :=
    rfl

@[simp] theorem State.modPort_pointer (s : State) (p : Port) (f : PortState → PortState) : (s.modPort p f).pointer = s.pointer :=
    rfl

@[simp] theorem State.modPort_framer (s : State) (p : Port) (f : PortState → PortState) : (s.modPort p f).framer = s.framer :=
    rfl

@[simp] theorem State.modPort_link (s : State) (p : Port) (f : PortState → PortState) : (s.modPort p f).link = s.link :=
    rfl

@[simp] theorem State.modPort_engine (s : State) (p : Port) (f : PortState → PortState) : (s.modPort p f).engine = s.engine :=
    rfl

@[simp] theorem State.modPort_classifier (s : State) (p : Port) (f : PortState → PortState) : (s.modPort p f).classifier = s.classifier :=
    rfl

@[simp] theorem State.modPort_lease (s : State) (p : Port) (f : PortState → PortState) : (s.modPort p f).lease = s.lease :=
    rfl

@[simp] theorem State.modPort_params (s : State) (p : Port) (f : PortState → PortState) : (s.modPort p f).params = s.params :=
    rfl

@[simp] theorem State.modPort_resetAsserted (s : State) (p : Port) (f : PortState → PortState) : (s.modPort p f).resetAsserted = s.resetAsserted :=
    rfl

@[simp] theorem State.modPort_freeTick (s : State) (p : Port) (f : PortState → PortState) : (s.modPort p f).freeTick = s.freeTick :=
    rfl

@[simp] theorem State.modPort_pending (s : State) (p : Port) (f : PortState → PortState) : (s.modPort p f).pending = s.pending :=
    rfl

@[simp] theorem State.raise_pool (s : State) (p : Port) (e : Event) : (s.raise p e).pool = s.pool := rfl

@[simp] theorem State.raise_frames (s : State) (p : Port) (e : Event) : (s.raise p e).frames = s.frames := rfl

@[simp] theorem State.raise_pointer (s : State) (p : Port) (e : Event) : (s.raise p e).pointer = s.pointer := rfl

@[simp] theorem State.raise_framer (s : State) (p : Port) (e : Event) : (s.raise p e).framer = s.framer := rfl

@[simp] theorem State.raise_link (s : State) (p : Port) (e : Event) : (s.raise p e).link = s.link := rfl

@[simp] theorem State.raise_engine (s : State) (p : Port) (e : Event) : (s.raise p e).engine = s.engine := rfl

@[simp] theorem State.raise_classifier (s : State) (p : Port) (e : Event) : (s.raise p e).classifier = s.classifier :=
    rfl

@[simp] theorem State.raise_lease (s : State) (p : Port) (e : Event) : (s.raise p e).lease = s.lease := rfl

@[simp] theorem State.raise_params (s : State) (p : Port) (e : Event) : (s.raise p e).params = s.params := rfl

@[simp] theorem State.raise_resetAsserted (s : State) (p : Port) (e : Event) : (s.raise p e).resetAsserted = s.resetAsserted :=
    rfl

@[simp] theorem State.raise_freeTick (s : State) (p : Port) (e : Event) : (s.raise p e).freeTick = s.freeTick := rfl

@[simp] theorem State.raise_pending (s : State) (p : Port) (e : Event) : (s.raise p e).pending = s.pending := rfl

@[simp] theorem State.raiseAll_pool (s : State) (e : Event) : (s.raiseAll e).pool = s.pool := rfl

@[simp] theorem State.raiseAll_frames (s : State) (e : Event) : (s.raiseAll e).frames = s.frames := rfl

@[simp] theorem State.raiseAll_pointer (s : State) (e : Event) : (s.raiseAll e).pointer = s.pointer := rfl

@[simp] theorem State.raiseAll_framer (s : State) (e : Event) : (s.raiseAll e).framer = s.framer := rfl

@[simp] theorem State.raiseAll_link (s : State) (e : Event) : (s.raiseAll e).link = s.link := rfl

@[simp] theorem State.raiseAll_engine (s : State) (e : Event) : (s.raiseAll e).engine = s.engine := rfl

@[simp] theorem State.raiseAll_classifier (s : State) (e : Event) : (s.raiseAll e).classifier = s.classifier := rfl

@[simp] theorem State.raiseAll_lease (s : State) (e : Event) : (s.raiseAll e).lease = s.lease := rfl

@[simp] theorem State.raiseAll_params (s : State) (e : Event) : (s.raiseAll e).params = s.params := rfl

@[simp] theorem State.raiseAll_resetAsserted (s : State) (e : Event) : (s.raiseAll e).resetAsserted = s.resetAsserted :=
    rfl

@[simp] theorem State.raiseAll_freeTick (s : State) (e : Event) : (s.raiseAll e).freeTick = s.freeTick := rfl

@[simp] theorem State.raiseAll_pending (s : State) (e : Event) : (s.raiseAll e).pending = s.pending := rfl

@[simp] theorem State.recordLevel_ports (s : State) : s.recordLevel.ports = s.ports := rfl

@[simp] theorem State.recordLevel_frames (s : State) : s.recordLevel.frames = s.frames := rfl

@[simp] theorem State.recordLevel_pointer (s : State) : s.recordLevel.pointer = s.pointer := rfl

@[simp] theorem State.recordLevel_framer (s : State) : s.recordLevel.framer = s.framer := rfl

@[simp] theorem State.recordLevel_link (s : State) : s.recordLevel.link = s.link := rfl

@[simp] theorem State.recordLevel_engine (s : State) : s.recordLevel.engine = s.engine := rfl

@[simp] theorem State.recordLevel_classifier (s : State) : s.recordLevel.classifier = s.classifier := rfl

@[simp] theorem State.recordLevel_lease (s : State) : s.recordLevel.lease = s.lease := rfl

@[simp] theorem State.recordLevel_params (s : State) : s.recordLevel.params = s.params := rfl

@[simp] theorem State.recordLevel_resetAsserted (s : State) : s.recordLevel.resetAsserted = s.resetAsserted := rfl

@[simp] theorem State.recordLevel_freeTick (s : State) : s.recordLevel.freeTick = s.freeTick := rfl

@[simp] theorem State.recordLevel_pending (s : State) : s.recordLevel.pending = s.pending := rfl

@[simp] theorem State.judgePoolLow_frames (s : State) : s.judgePoolLow.frames = s.frames := by
  unfold State.judgePoolLow; split <;> rfl

@[simp] theorem State.judgePoolLow_pointer (s : State) : s.judgePoolLow.pointer = s.pointer := by
  unfold State.judgePoolLow; split <;> rfl

@[simp] theorem State.judgePoolLow_framer (s : State) : s.judgePoolLow.framer = s.framer := by
  unfold State.judgePoolLow; split <;> rfl

@[simp] theorem State.judgePoolLow_link (s : State) : s.judgePoolLow.link = s.link := by
  unfold State.judgePoolLow; split <;> rfl

@[simp] theorem State.judgePoolLow_engine (s : State) : s.judgePoolLow.engine = s.engine := by
  unfold State.judgePoolLow; split <;> rfl

@[simp] theorem State.judgePoolLow_classifier (s : State) : s.judgePoolLow.classifier = s.classifier := by
  unfold State.judgePoolLow; split <;> rfl

@[simp] theorem State.judgePoolLow_lease (s : State) : s.judgePoolLow.lease = s.lease := by
  unfold State.judgePoolLow; split <;> rfl

@[simp] theorem State.judgePoolLow_params (s : State) : s.judgePoolLow.params = s.params := by
  unfold State.judgePoolLow; split <;> rfl

@[simp] theorem State.judgePoolLow_resetAsserted (s : State) : s.judgePoolLow.resetAsserted = s.resetAsserted := by
  unfold State.judgePoolLow; split <;> rfl

@[simp] theorem State.judgePoolLow_freeTick (s : State) : s.judgePoolLow.freeTick = s.freeTick := by
  unfold State.judgePoolLow; split <;> rfl

@[simp] theorem State.judgePoolLow_pending (s : State) : s.judgePoolLow.pending = s.pending := by
  unfold State.judgePoolLow; split <;> rfl

@[simp] theorem State.resumePeer_pool (s : State) : s.resumePeer.pool = s.pool := by
  unfold State.resumePeer; split <;> rfl

@[simp] theorem State.resumePeer_ports (s : State) : s.resumePeer.ports = s.ports := by
  unfold State.resumePeer; split <;> rfl

@[simp] theorem State.resumePeer_frames (s : State) : s.resumePeer.frames = s.frames := by
  unfold State.resumePeer; split <;> rfl

@[simp] theorem State.resumePeer_pointer (s : State) : s.resumePeer.pointer = s.pointer := by
  unfold State.resumePeer; split <;> rfl

@[simp] theorem State.resumePeer_framer (s : State) : s.resumePeer.framer = s.framer := by
  unfold State.resumePeer; split <;> rfl

@[simp] theorem State.resumePeer_link (s : State) : s.resumePeer.link = s.link := by
  unfold State.resumePeer; split <;> rfl

@[simp] theorem State.resumePeer_classifier (s : State) : s.resumePeer.classifier = s.classifier := by
  unfold State.resumePeer; split <;> rfl

@[simp] theorem State.resumePeer_lease (s : State) : s.resumePeer.lease = s.lease := by
  unfold State.resumePeer; split <;> rfl

@[simp] theorem State.resumePeer_params (s : State) : s.resumePeer.params = s.params := by
  unfold State.resumePeer; split <;> rfl

@[simp] theorem State.resumePeer_resetAsserted (s : State) : s.resumePeer.resetAsserted = s.resetAsserted := by
  unfold State.resumePeer; split <;> rfl

@[simp] theorem State.resumePeer_freeTick (s : State) : s.resumePeer.freeTick = s.freeTick := by
  unfold State.resumePeer; split <;> rfl

@[simp] theorem State.resumePeer_pending (s : State) : s.resumePeer.pending = s.pending := by
  unfold State.resumePeer; split <;> rfl

@[simp] theorem State.settlePool_frames (s : State) : s.settlePool.frames = s.frames := by simp [State.settlePool]

@[simp] theorem State.settlePool_pointer (s : State) : s.settlePool.pointer = s.pointer := by simp [State.settlePool]

@[simp] theorem State.settlePool_framer (s : State) : s.settlePool.framer = s.framer := by simp [State.settlePool]

@[simp] theorem State.settlePool_link (s : State) : s.settlePool.link = s.link := by simp [State.settlePool]

@[simp] theorem State.settlePool_classifier (s : State) : s.settlePool.classifier = s.classifier := by
  simp [State.settlePool]

@[simp] theorem State.settlePool_lease (s : State) : s.settlePool.lease = s.lease := by simp [State.settlePool]

@[simp] theorem State.settlePool_params (s : State) : s.settlePool.params = s.params := by simp [State.settlePool]

@[simp] theorem State.settlePool_resetAsserted (s : State) : s.settlePool.resetAsserted = s.resetAsserted := by
  simp [State.settlePool]

@[simp] theorem State.settlePool_freeTick (s : State) : s.settlePool.freeTick = s.freeTick := by
  simp [State.settlePool]

@[simp] theorem State.settlePool_pending (s : State) : s.settlePool.pending = s.pending := by simp [State.settlePool]

@[simp] theorem State.returnFrames_frames (s : State) (p : Port) (l : List Frame) : (s.returnFrames p l).frames = s.frames :=
    rfl

@[simp] theorem State.returnFrames_pointer (s : State) (p : Port) (l : List Frame) : (s.returnFrames p l).pointer = s.pointer :=
    rfl

@[simp] theorem State.returnFrames_framer (s : State) (p : Port) (l : List Frame) : (s.returnFrames p l).framer = s.framer :=
    rfl

@[simp] theorem State.returnFrames_link (s : State) (p : Port) (l : List Frame) : (s.returnFrames p l).link = s.link :=
    rfl

@[simp] theorem State.returnFrames_engine (s : State) (p : Port) (l : List Frame) : (s.returnFrames p l).engine = s.engine :=
    rfl

@[simp] theorem State.returnFrames_classifier (s : State) (p : Port) (l : List Frame) : (s.returnFrames p l).classifier = s.classifier :=
    rfl

@[simp] theorem State.returnFrames_lease (s : State) (p : Port) (l : List Frame) : (s.returnFrames p l).lease = s.lease :=
    rfl

@[simp] theorem State.returnFrames_params (s : State) (p : Port) (l : List Frame) : (s.returnFrames p l).params = s.params :=
    rfl

@[simp] theorem State.returnFrames_resetAsserted (s : State) (p : Port) (l : List Frame) : (s.returnFrames p l).resetAsserted = s.resetAsserted :=
    rfl

@[simp] theorem State.returnFrames_freeTick (s : State) (p : Port) (l : List Frame) : (s.returnFrames p l).freeTick = s.freeTick :=
    rfl

@[simp] theorem State.returnFrames_pending (s : State) (p : Port) (l : List Frame) : (s.returnFrames p l).pending = s.pending :=
    rfl

@[simp] theorem State.movePayment_pool (s : State) (p q : Port) (k : Nat) : (s.movePayment p q k).pool = s.pool := rfl

@[simp] theorem State.movePayment_frames (s : State) (p q : Port) (k : Nat) : (s.movePayment p q k).frames = s.frames :=
    rfl

@[simp] theorem State.movePayment_pointer (s : State) (p q : Port) (k : Nat) : (s.movePayment p q k).pointer = s.pointer :=
    rfl

@[simp] theorem State.movePayment_framer (s : State) (p q : Port) (k : Nat) : (s.movePayment p q k).framer = s.framer :=
    rfl

@[simp] theorem State.movePayment_link (s : State) (p q : Port) (k : Nat) : (s.movePayment p q k).link = s.link := rfl

@[simp] theorem State.movePayment_engine (s : State) (p q : Port) (k : Nat) : (s.movePayment p q k).engine = s.engine :=
    rfl

@[simp] theorem State.movePayment_classifier (s : State) (p q : Port) (k : Nat) : (s.movePayment p q k).classifier = s.classifier :=
    rfl

@[simp] theorem State.movePayment_lease (s : State) (p q : Port) (k : Nat) : (s.movePayment p q k).lease = s.lease :=
    rfl

@[simp] theorem State.movePayment_params (s : State) (p q : Port) (k : Nat) : (s.movePayment p q k).params = s.params :=
    rfl

@[simp] theorem State.movePayment_resetAsserted (s : State) (p q : Port) (k : Nat) : (s.movePayment p q k).resetAsserted = s.resetAsserted :=
    rfl

@[simp] theorem State.movePayment_freeTick (s : State) (p q : Port) (k : Nat) : (s.movePayment p q k).freeTick = s.freeTick :=
    rfl

@[simp] theorem State.movePayment_pending (s : State) (p q : Port) (k : Nat) : (s.movePayment p q k).pending = s.pending :=
    rfl

@[simp] theorem State.freeFrame_frames (s : State) (p : Port) (f : Frame) : (s.freeFrame p f).frames = s.frames := by
  simp [State.freeFrame]

@[simp] theorem State.freeFrame_pointer (s : State) (p : Port) (f : Frame) : (s.freeFrame p f).pointer = s.pointer := by
  simp [State.freeFrame]

@[simp] theorem State.freeFrame_framer (s : State) (p : Port) (f : Frame) : (s.freeFrame p f).framer = s.framer := by
  simp [State.freeFrame]

@[simp] theorem State.freeFrame_link (s : State) (p : Port) (f : Frame) : (s.freeFrame p f).link = s.link := by
  simp [State.freeFrame]

@[simp] theorem State.freeFrame_classifier (s : State) (p : Port) (f : Frame) : (s.freeFrame p f).classifier = s.classifier := by
  simp [State.freeFrame]

@[simp] theorem State.freeFrame_lease (s : State) (p : Port) (f : Frame) : (s.freeFrame p f).lease = s.lease := by
  simp [State.freeFrame]

@[simp] theorem State.freeFrame_params (s : State) (p : Port) (f : Frame) : (s.freeFrame p f).params = s.params := by
  simp [State.freeFrame]

@[simp] theorem State.freeFrame_resetAsserted (s : State) (p : Port) (f : Frame) : (s.freeFrame p f).resetAsserted = s.resetAsserted := by
  simp [State.freeFrame]

@[simp] theorem State.freeFrame_freeTick (s : State) (p : Port) (f : Frame) : (s.freeFrame p f).freeTick = s.freeTick := by
  simp [State.freeFrame]

@[simp] theorem State.freeFrame_pending (s : State) (p : Port) (f : Frame) : (s.freeFrame p f).pending = s.pending := by
  simp [State.freeFrame]

@[simp] theorem State.putFrame_pool (s : State) (n : Nat) (f : Frame) : (s.putFrame n f).pool = s.pool := rfl

@[simp] theorem State.putFrame_ports (s : State) (n : Nat) (f : Frame) : (s.putFrame n f).ports = s.ports := rfl

@[simp] theorem State.putFrame_pointer (s : State) (n : Nat) (f : Frame) : (s.putFrame n f).pointer = s.pointer := rfl

@[simp] theorem State.putFrame_framer (s : State) (n : Nat) (f : Frame) : (s.putFrame n f).framer = s.framer := rfl

@[simp] theorem State.putFrame_link (s : State) (n : Nat) (f : Frame) : (s.putFrame n f).link = s.link := rfl

@[simp] theorem State.putFrame_engine (s : State) (n : Nat) (f : Frame) : (s.putFrame n f).engine = s.engine := rfl

@[simp] theorem State.putFrame_classifier (s : State) (n : Nat) (f : Frame) : (s.putFrame n f).classifier = s.classifier :=
    rfl

@[simp] theorem State.putFrame_lease (s : State) (n : Nat) (f : Frame) : (s.putFrame n f).lease = s.lease := rfl

@[simp] theorem State.putFrame_params (s : State) (n : Nat) (f : Frame) : (s.putFrame n f).params = s.params := rfl

@[simp] theorem State.putFrame_resetAsserted (s : State) (n : Nat) (f : Frame) : (s.putFrame n f).resetAsserted = s.resetAsserted :=
    rfl

@[simp] theorem State.putFrame_freeTick (s : State) (n : Nat) (f : Frame) : (s.putFrame n f).freeTick = s.freeTick :=
    rfl

@[simp] theorem State.putFrame_pending (s : State) (n : Nat) (f : Frame) : (s.putFrame n f).pending = s.pending := rfl

@[simp] theorem State.dropFrame_pool (s : State) (n : Nat) : (s.dropFrame n).pool = s.pool := rfl

@[simp] theorem State.dropFrame_ports (s : State) (n : Nat) : (s.dropFrame n).ports = s.ports := rfl

@[simp] theorem State.dropFrame_pointer (s : State) (n : Nat) : (s.dropFrame n).pointer = s.pointer := rfl

@[simp] theorem State.dropFrame_framer (s : State) (n : Nat) : (s.dropFrame n).framer = s.framer := rfl

@[simp] theorem State.dropFrame_link (s : State) (n : Nat) : (s.dropFrame n).link = s.link := rfl

@[simp] theorem State.dropFrame_engine (s : State) (n : Nat) : (s.dropFrame n).engine = s.engine := rfl

@[simp] theorem State.dropFrame_classifier (s : State) (n : Nat) : (s.dropFrame n).classifier = s.classifier := rfl

@[simp] theorem State.dropFrame_lease (s : State) (n : Nat) : (s.dropFrame n).lease = s.lease := rfl

@[simp] theorem State.dropFrame_params (s : State) (n : Nat) : (s.dropFrame n).params = s.params := rfl

@[simp] theorem State.dropFrame_resetAsserted (s : State) (n : Nat) : (s.dropFrame n).resetAsserted = s.resetAsserted :=
    rfl

@[simp] theorem State.dropFrame_freeTick (s : State) (n : Nat) : (s.dropFrame n).freeTick = s.freeTick := rfl

@[simp] theorem State.dropFrame_pending (s : State) (n : Nat) : (s.dropFrame n).pending = s.pending := rfl

@[simp] theorem State.dropReference_pointer (s : State) (p : Port) (n : Nat) : (s.dropReference p n).pointer = s.pointer := by
  unfold State.dropReference
  split
  · rfl
  · dsimp only
    split
    · rfl
    · split
      · split <;> rfl
      · rfl

@[simp] theorem State.dropReference_framer (s : State) (p : Port) (n : Nat) : (s.dropReference p n).framer = s.framer := by
  unfold State.dropReference
  split
  · rfl
  · dsimp only
    split
    · rfl
    · split
      · split <;> rfl
      · rfl

@[simp] theorem State.dropReference_link (s : State) (p : Port) (n : Nat) : (s.dropReference p n).link = s.link := by
  unfold State.dropReference
  split
  · rfl
  · dsimp only
    split
    · rfl
    · split
      · split <;> rfl
      · rfl

@[simp] theorem State.dropReference_engine (s : State) (p : Port) (n : Nat) : (s.dropReference p n).engine = s.engine := by
  unfold State.dropReference
  split
  · rfl
  · dsimp only
    split
    · rfl
    · split
      · split <;> rfl
      · rfl

@[simp] theorem State.dropReference_classifier (s : State) (p : Port) (n : Nat) : (s.dropReference p n).classifier = s.classifier := by
  unfold State.dropReference
  split
  · rfl
  · dsimp only
    split
    · rfl
    · split
      · split <;> rfl
      · rfl

@[simp] theorem State.dropReference_lease (s : State) (p : Port) (n : Nat) : (s.dropReference p n).lease = s.lease := by
  unfold State.dropReference
  split
  · rfl
  · dsimp only
    split
    · rfl
    · split
      · split <;> rfl
      · rfl

@[simp] theorem State.dropReference_params (s : State) (p : Port) (n : Nat) : (s.dropReference p n).params = s.params := by
  unfold State.dropReference
  split
  · rfl
  · dsimp only
    split
    · rfl
    · split
      · split <;> rfl
      · rfl

@[simp] theorem State.dropReference_resetAsserted (s : State) (p : Port) (n : Nat) : (s.dropReference p n).resetAsserted = s.resetAsserted := by
  unfold State.dropReference
  split
  · rfl
  · dsimp only
    split
    · rfl
    · split
      · split <;> rfl
      · rfl

@[simp] theorem State.dropReference_freeTick (s : State) (p : Port) (n : Nat) : (s.dropReference p n).freeTick = s.freeTick := by
  unfold State.dropReference
  split
  · rfl
  · dsimp only
    split
    · rfl
    · split
      · split <;> rfl
      · rfl

@[simp] theorem State.dropReference_pending (s : State) (p : Port) (n : Nat) : (s.dropReference p n).pending = s.pending := by
  unfold State.dropReference
  split
  · rfl
  · dsimp only
    split
    · rfl
    · split
      · split <;> rfl
      · rfl

@[simp] theorem State.releaseInbound_frames (s : State) : s.releaseInbound.frames = s.frames := by
  unfold State.releaseInbound; dsimp only; split <;> simp

@[simp] theorem State.releaseInbound_pointer (s : State) : s.releaseInbound.pointer = s.pointer := by
  unfold State.releaseInbound; dsimp only; split <;> simp

@[simp] theorem State.releaseInbound_link (s : State) : s.releaseInbound.link = s.link := by
  unfold State.releaseInbound; dsimp only; split <;> simp

@[simp] theorem State.releaseInbound_classifier (s : State) : s.releaseInbound.classifier = s.classifier := by
  unfold State.releaseInbound; dsimp only; split <;> simp

@[simp] theorem State.releaseInbound_lease (s : State) : s.releaseInbound.lease = s.lease := by
  unfold State.releaseInbound; dsimp only; split <;> simp

@[simp] theorem State.releaseInbound_params (s : State) : s.releaseInbound.params = s.params := by
  unfold State.releaseInbound; dsimp only; split <;> simp

@[simp] theorem State.releaseInbound_resetAsserted (s : State) : s.releaseInbound.resetAsserted = s.resetAsserted := by
  unfold State.releaseInbound; dsimp only; split <;> simp

@[simp] theorem State.releaseInbound_freeTick (s : State) : s.releaseInbound.freeTick = s.freeTick := by
  unfold State.releaseInbound; dsimp only; split <;> simp

@[simp] theorem State.releaseInbound_pending (s : State) : s.releaseInbound.pending = s.pending := by
  unfold State.releaseInbound; dsimp only; split <;> simp

@[simp] theorem State.appendRecord_pool (s : State) (r : RxRecord) (q : Port) : (s.appendRecord r q).pool = s.pool :=
    rfl

@[simp] theorem State.appendRecord_frames (s : State) (r : RxRecord) (q : Port) : (s.appendRecord r q).frames = s.frames :=
    rfl

@[simp] theorem State.appendRecord_pointer (s : State) (r : RxRecord) (q : Port) : (s.appendRecord r q).pointer = s.pointer :=
    rfl

@[simp] theorem State.appendRecord_framer (s : State) (r : RxRecord) (q : Port) : (s.appendRecord r q).framer = s.framer :=
    rfl

@[simp] theorem State.appendRecord_link (s : State) (r : RxRecord) (q : Port) : (s.appendRecord r q).link = s.link :=
    rfl

@[simp] theorem State.appendRecord_engine (s : State) (r : RxRecord) (q : Port) : (s.appendRecord r q).engine = s.engine :=
    rfl

@[simp] theorem State.appendRecord_classifier (s : State) (r : RxRecord) (q : Port) : (s.appendRecord r q).classifier = s.classifier :=
    rfl

@[simp] theorem State.appendRecord_lease (s : State) (r : RxRecord) (q : Port) : (s.appendRecord r q).lease = s.lease :=
    rfl

@[simp] theorem State.appendRecord_params (s : State) (r : RxRecord) (q : Port) : (s.appendRecord r q).params = s.params :=
    rfl

@[simp] theorem State.appendRecord_resetAsserted (s : State) (r : RxRecord) (q : Port) : (s.appendRecord r q).resetAsserted = s.resetAsserted :=
    rfl

@[simp] theorem State.appendRecord_freeTick (s : State) (r : RxRecord) (q : Port) : (s.appendRecord r q).freeTick = s.freeTick :=
    rfl

@[simp] theorem State.appendRecord_pending (s : State) (r : RxRecord) (q : Port) : (s.appendRecord r q).pending = s.pending :=
    rfl

@[simp] theorem State.refuse_pool (s : State) (r : LastRefusal) (q : Port) : (s.refuse r q).pool = s.pool := rfl

@[simp] theorem State.refuse_frames (s : State) (r : LastRefusal) (q : Port) : (s.refuse r q).frames = s.frames := rfl

@[simp] theorem State.refuse_pointer (s : State) (r : LastRefusal) (q : Port) : (s.refuse r q).pointer = s.pointer :=
    rfl

@[simp] theorem State.refuse_framer (s : State) (r : LastRefusal) (q : Port) : (s.refuse r q).framer = s.framer := rfl

@[simp] theorem State.refuse_link (s : State) (r : LastRefusal) (q : Port) : (s.refuse r q).link = s.link := rfl

@[simp] theorem State.refuse_engine (s : State) (r : LastRefusal) (q : Port) : (s.refuse r q).engine = s.engine := rfl

@[simp] theorem State.refuse_classifier (s : State) (r : LastRefusal) (q : Port) : (s.refuse r q).classifier = s.classifier :=
    rfl

@[simp] theorem State.refuse_lease (s : State) (r : LastRefusal) (q : Port) : (s.refuse r q).lease = s.lease := rfl

@[simp] theorem State.refuse_params (s : State) (r : LastRefusal) (q : Port) : (s.refuse r q).params = s.params := rfl

@[simp] theorem State.refuse_resetAsserted (s : State) (r : LastRefusal) (q : Port) : (s.refuse r q).resetAsserted = s.resetAsserted :=
    rfl

@[simp] theorem State.refuse_freeTick (s : State) (r : LastRefusal) (q : Port) : (s.refuse r q).freeTick = s.freeTick :=
    rfl

@[simp] theorem State.refuse_pending (s : State) (r : LastRefusal) (q : Port) : (s.refuse r q).pending = s.pending :=
    rfl

@[simp] theorem State.convertSlot_pool (s : State) (p : Port) (f : Frame) (o : CplOutcome) : (s.convertSlot p f o).pool = s.pool :=
    rfl

@[simp] theorem State.convertSlot_frames (s : State) (p : Port) (f : Frame) (o : CplOutcome) : (s.convertSlot p f o).frames = s.frames :=
    rfl

@[simp] theorem State.convertSlot_pointer (s : State) (p : Port) (f : Frame) (o : CplOutcome) : (s.convertSlot p f o).pointer = s.pointer :=
    rfl

@[simp] theorem State.convertSlot_framer (s : State) (p : Port) (f : Frame) (o : CplOutcome) : (s.convertSlot p f o).framer = s.framer :=
    rfl

@[simp] theorem State.convertSlot_link (s : State) (p : Port) (f : Frame) (o : CplOutcome) : (s.convertSlot p f o).link = s.link :=
    rfl

@[simp] theorem State.convertSlot_engine (s : State) (p : Port) (f : Frame) (o : CplOutcome) : (s.convertSlot p f o).engine = s.engine :=
    rfl

@[simp] theorem State.convertSlot_classifier (s : State) (p : Port) (f : Frame) (o : CplOutcome) : (s.convertSlot p f o).classifier = s.classifier :=
    rfl

@[simp] theorem State.convertSlot_lease (s : State) (p : Port) (f : Frame) (o : CplOutcome) : (s.convertSlot p f o).lease = s.lease :=
    rfl

@[simp] theorem State.convertSlot_params (s : State) (p : Port) (f : Frame) (o : CplOutcome) : (s.convertSlot p f o).params = s.params :=
    rfl

@[simp] theorem State.convertSlot_resetAsserted (s : State) (p : Port) (f : Frame) (o : CplOutcome) : (s.convertSlot p f o).resetAsserted = s.resetAsserted :=
    rfl

@[simp] theorem State.convertSlot_freeTick (s : State) (p : Port) (f : Frame) (o : CplOutcome) : (s.convertSlot p f o).freeTick = s.freeTick :=
    rfl

@[simp] theorem State.convertSlot_pending (s : State) (p : Port) (f : Frame) (o : CplOutcome) : (s.convertSlot p f o).pending = s.pending :=
    rfl

@[simp] theorem State.failFrame_frames (s : State) (p : Port) (o : CplOutcome) (f : Frame) : (s.failFrame p o f).frames = s.frames := by
  unfold State.failFrame; split <;> simp

@[simp] theorem State.failFrame_pointer (s : State) (p : Port) (o : CplOutcome) (f : Frame) : (s.failFrame p o f).pointer = s.pointer := by
  unfold State.failFrame; split <;> simp

@[simp] theorem State.failFrame_framer (s : State) (p : Port) (o : CplOutcome) (f : Frame) : (s.failFrame p o f).framer = s.framer := by
  unfold State.failFrame; split <;> simp

@[simp] theorem State.failFrame_link (s : State) (p : Port) (o : CplOutcome) (f : Frame) : (s.failFrame p o f).link = s.link := by
  unfold State.failFrame; split <;> simp

@[simp] theorem State.failFrame_classifier (s : State) (p : Port) (o : CplOutcome) (f : Frame) : (s.failFrame p o f).classifier = s.classifier := by
  unfold State.failFrame; split <;> simp

@[simp] theorem State.failFrame_lease (s : State) (p : Port) (o : CplOutcome) (f : Frame) : (s.failFrame p o f).lease = s.lease := by
  unfold State.failFrame; split <;> simp

@[simp] theorem State.failFrame_params (s : State) (p : Port) (o : CplOutcome) (f : Frame) : (s.failFrame p o f).params = s.params := by
  unfold State.failFrame; split <;> simp

@[simp] theorem State.failFrame_resetAsserted (s : State) (p : Port) (o : CplOutcome) (f : Frame) : (s.failFrame p o f).resetAsserted = s.resetAsserted := by
  unfold State.failFrame; split <;> simp

@[simp] theorem State.failFrame_freeTick (s : State) (p : Port) (o : CplOutcome) (f : Frame) : (s.failFrame p o f).freeTick = s.freeTick := by
  unfold State.failFrame; split <;> simp

@[simp] theorem State.failFrame_pending (s : State) (p : Port) (o : CplOutcome) (f : Frame) : (s.failFrame p o f).pending = s.pending := by
  unfold State.failFrame; split <;> simp

@[simp] theorem State.failEntry_frames (s : State) (e : WindowEntry) : (s.failEntry e).frames = s.frames := by
  unfold State.failEntry; split <;> simp

@[simp] theorem State.failEntry_pointer (s : State) (e : WindowEntry) : (s.failEntry e).pointer = s.pointer := by
  unfold State.failEntry; split <;> simp

@[simp] theorem State.failEntry_framer (s : State) (e : WindowEntry) : (s.failEntry e).framer = s.framer := by
  unfold State.failEntry; split <;> simp

@[simp] theorem State.failEntry_link (s : State) (e : WindowEntry) : (s.failEntry e).link = s.link := by
  unfold State.failEntry; split <;> simp

@[simp] theorem State.failEntry_classifier (s : State) (e : WindowEntry) : (s.failEntry e).classifier = s.classifier := by
  unfold State.failEntry; split <;> simp

@[simp] theorem State.failEntry_lease (s : State) (e : WindowEntry) : (s.failEntry e).lease = s.lease := by
  unfold State.failEntry; split <;> simp

@[simp] theorem State.failEntry_params (s : State) (e : WindowEntry) : (s.failEntry e).params = s.params := by
  unfold State.failEntry; split <;> simp

@[simp] theorem State.failEntry_resetAsserted (s : State) (e : WindowEntry) : (s.failEntry e).resetAsserted = s.resetAsserted := by
  unfold State.failEntry; split <;> simp

@[simp] theorem State.failEntry_freeTick (s : State) (e : WindowEntry) : (s.failEntry e).freeTick = s.freeTick := by
  unfold State.failEntry; split <;> simp

@[simp] theorem State.failEntry_pending (s : State) (e : WindowEntry) : (s.failEntry e).pending = s.pending := by
  unfold State.failEntry; split <;> simp

@[simp] theorem State.endTransmission_frames (s : State) (c : List Byte) : (s.endTransmission c).frames = s.frames := by
  unfold State.endTransmission
  split
  · rfl
  · dsimp only
    split <;> simp

@[simp] theorem State.endTransmission_pointer (s : State) (c : List Byte) : (s.endTransmission c).pointer = s.pointer := by
  unfold State.endTransmission
  split
  · rfl
  · dsimp only
    split <;> simp

@[simp] theorem State.endTransmission_link (s : State) (c : List Byte) : (s.endTransmission c).link = s.link := by
  unfold State.endTransmission
  split
  · rfl
  · dsimp only
    split <;> simp

@[simp] theorem State.endTransmission_classifier (s : State) (c : List Byte) : (s.endTransmission c).classifier = s.classifier := by
  unfold State.endTransmission
  split
  · rfl
  · dsimp only
    split <;> simp

@[simp] theorem State.endTransmission_lease (s : State) (c : List Byte) : (s.endTransmission c).lease = s.lease := by
  unfold State.endTransmission
  split
  · rfl
  · dsimp only
    split <;> simp

@[simp] theorem State.endTransmission_params (s : State) (c : List Byte) : (s.endTransmission c).params = s.params := by
  unfold State.endTransmission
  split
  · rfl
  · dsimp only
    split <;> simp

@[simp] theorem State.endTransmission_resetAsserted (s : State) (c : List Byte) : (s.endTransmission c).resetAsserted = s.resetAsserted := by
  unfold State.endTransmission
  split
  · rfl
  · dsimp only
    split <;> simp

@[simp] theorem State.endTransmission_freeTick (s : State) (c : List Byte) : (s.endTransmission c).freeTick = s.freeTick := by
  unfold State.endTransmission
  split
  · rfl
  · dsimp only
    split <;> simp

@[simp] theorem State.endTransmission_pending (s : State) (c : List Byte) : (s.endTransmission c).pending = s.pending := by
  unfold State.endTransmission
  split
  · rfl
  · dsimp only
    split <;> simp

@[simp] theorem State.startFrame_pool (s : State) (k : FrameType) (l : List Byte) : (s.startFrame k l).pool = s.pool :=
    rfl

@[simp] theorem State.startFrame_ports (s : State) (k : FrameType) (l : List Byte) : (s.startFrame k l).ports = s.ports :=
    rfl

@[simp] theorem State.startFrame_frames (s : State) (k : FrameType) (l : List Byte) : (s.startFrame k l).frames = s.frames :=
    rfl

@[simp] theorem State.startFrame_pointer (s : State) (k : FrameType) (l : List Byte) : (s.startFrame k l).pointer = s.pointer :=
    rfl

@[simp] theorem State.startFrame_classifier (s : State) (k : FrameType) (l : List Byte) : (s.startFrame k l).classifier = s.classifier :=
    rfl

@[simp] theorem State.startFrame_lease (s : State) (k : FrameType) (l : List Byte) : (s.startFrame k l).lease = s.lease :=
    rfl

@[simp] theorem State.startFrame_params (s : State) (k : FrameType) (l : List Byte) : (s.startFrame k l).params = s.params :=
    rfl

@[simp] theorem State.startFrame_resetAsserted (s : State) (k : FrameType) (l : List Byte) : (s.startFrame k l).resetAsserted = s.resetAsserted :=
    rfl

@[simp] theorem State.startFrame_freeTick (s : State) (k : FrameType) (l : List Byte) : (s.startFrame k l).freeTick = s.freeTick :=
    rfl

@[simp] theorem State.startFrame_pending (s : State) (k : FrameType) (l : List Byte) : (s.startFrame k l).pending = s.pending :=
    rfl

@[simp] theorem State.startLeaseTimer_pool (s : State) : s.startLeaseTimer.pool = s.pool := rfl

@[simp] theorem State.startLeaseTimer_ports (s : State) : s.startLeaseTimer.ports = s.ports := rfl

@[simp] theorem State.startLeaseTimer_frames (s : State) : s.startLeaseTimer.frames = s.frames := rfl

@[simp] theorem State.startLeaseTimer_pointer (s : State) : s.startLeaseTimer.pointer = s.pointer := rfl

@[simp] theorem State.startLeaseTimer_framer (s : State) : s.startLeaseTimer.framer = s.framer := rfl

@[simp] theorem State.startLeaseTimer_link (s : State) : s.startLeaseTimer.link = s.link := rfl

@[simp] theorem State.startLeaseTimer_engine (s : State) : s.startLeaseTimer.engine = s.engine := rfl

@[simp] theorem State.startLeaseTimer_classifier (s : State) : s.startLeaseTimer.classifier = s.classifier := rfl

@[simp] theorem State.startLeaseTimer_params (s : State) : s.startLeaseTimer.params = s.params := rfl

@[simp] theorem State.startLeaseTimer_resetAsserted (s : State) : s.startLeaseTimer.resetAsserted = s.resetAsserted :=
    rfl

@[simp] theorem State.startLeaseTimer_freeTick (s : State) : s.startLeaseTimer.freeTick = s.freeTick := rfl

@[simp] theorem State.startLeaseTimer_pending (s : State) : s.startLeaseTimer.pending = s.pending := rfl

@[simp] theorem State.endHolding_pool (s : State) (x : Bool) : (s.endHolding x).pool = s.pool := by
  unfold State.endHolding
  cases s.lease.holder with
  | none => rfl
  | some h => cases x <;> cases s.lease.waiting <;> rfl

@[simp] theorem State.endHolding_frames (s : State) (x : Bool) : (s.endHolding x).frames = s.frames := by
  unfold State.endHolding
  cases s.lease.holder with
  | none => rfl
  | some h => cases x <;> cases s.lease.waiting <;> rfl

@[simp] theorem State.endHolding_pointer (s : State) (x : Bool) : (s.endHolding x).pointer = s.pointer := by
  unfold State.endHolding
  cases s.lease.holder with
  | none => rfl
  | some h => cases x <;> cases s.lease.waiting <;> rfl

@[simp] theorem State.endHolding_framer (s : State) (x : Bool) : (s.endHolding x).framer = s.framer := by
  unfold State.endHolding
  cases s.lease.holder with
  | none => rfl
  | some h => cases x <;> cases s.lease.waiting <;> rfl

@[simp] theorem State.endHolding_link (s : State) (x : Bool) : (s.endHolding x).link = s.link := by
  unfold State.endHolding
  cases s.lease.holder with
  | none => rfl
  | some h => cases x <;> cases s.lease.waiting <;> rfl

@[simp] theorem State.endHolding_engine (s : State) (x : Bool) : (s.endHolding x).engine = s.engine := by
  unfold State.endHolding
  cases s.lease.holder with
  | none => rfl
  | some h => cases x <;> cases s.lease.waiting <;> rfl

@[simp] theorem State.endHolding_params (s : State) (x : Bool) : (s.endHolding x).params = s.params := by
  unfold State.endHolding
  cases s.lease.holder with
  | none => rfl
  | some h => cases x <;> cases s.lease.waiting <;> rfl

@[simp] theorem State.endHolding_resetAsserted (s : State) (x : Bool) : (s.endHolding x).resetAsserted = s.resetAsserted := by
  unfold State.endHolding
  cases s.lease.holder with
  | none => rfl
  | some h => cases x <;> cases s.lease.waiting <;> rfl

@[simp] theorem State.endHolding_freeTick (s : State) (x : Bool) : (s.endHolding x).freeTick = s.freeTick := by
  unfold State.endHolding
  cases s.lease.holder with
  | none => rfl
  | some h => cases x <;> cases s.lease.waiting <;> rfl

@[simp] theorem State.endHolding_pending (s : State) (x : Bool) : (s.endHolding x).pending = s.pending := by
  unfold State.endHolding
  cases s.lease.holder with
  | none => rfl
  | some h => cases x <;> cases s.lease.waiting <;> rfl

@[simp] theorem State.setLinkState_pool (s : State) (l : LinkState) : (s.setLinkState l).pool = s.pool := rfl

@[simp] theorem State.setLinkState_frames (s : State) (l : LinkState) : (s.setLinkState l).frames = s.frames := rfl

@[simp] theorem State.setLinkState_pointer (s : State) (l : LinkState) : (s.setLinkState l).pointer = s.pointer := rfl

@[simp] theorem State.setLinkState_framer (s : State) (l : LinkState) : (s.setLinkState l).framer = s.framer := rfl

@[simp] theorem State.setLinkState_engine (s : State) (l : LinkState) : (s.setLinkState l).engine = s.engine := rfl

@[simp] theorem State.setLinkState_classifier (s : State) (l : LinkState) : (s.setLinkState l).classifier = s.classifier :=
    rfl

@[simp] theorem State.setLinkState_lease (s : State) (l : LinkState) : (s.setLinkState l).lease = s.lease := rfl

@[simp] theorem State.setLinkState_params (s : State) (l : LinkState) : (s.setLinkState l).params = s.params := rfl

@[simp] theorem State.setLinkState_resetAsserted (s : State) (l : LinkState) : (s.setLinkState l).resetAsserted = s.resetAsserted :=
    rfl

@[simp] theorem State.setLinkState_freeTick (s : State) (l : LinkState) : (s.setLinkState l).freeTick = s.freeTick :=
    rfl

@[simp] theorem State.setLinkState_pending (s : State) (l : LinkState) : (s.setLinkState l).pending = s.pending := rfl

@[simp] theorem State.enterSeeking_pool (s : State) : s.enterSeeking.pool = s.pool := rfl

@[simp] theorem State.enterSeeking_frames (s : State) : s.enterSeeking.frames = s.frames := rfl

@[simp] theorem State.enterSeeking_pointer (s : State) : s.enterSeeking.pointer = s.pointer := rfl

@[simp] theorem State.enterSeeking_framer (s : State) : s.enterSeeking.framer = s.framer := rfl

@[simp] theorem State.enterSeeking_engine (s : State) : s.enterSeeking.engine = s.engine := rfl

@[simp] theorem State.enterSeeking_classifier (s : State) : s.enterSeeking.classifier = s.classifier := rfl

@[simp] theorem State.enterSeeking_lease (s : State) : s.enterSeeking.lease = s.lease := rfl

@[simp] theorem State.enterSeeking_params (s : State) : s.enterSeeking.params = s.params := rfl

@[simp] theorem State.enterSeeking_resetAsserted (s : State) : s.enterSeeking.resetAsserted = s.resetAsserted := rfl

@[simp] theorem State.enterSeeking_freeTick (s : State) : s.enterSeeking.freeTick = s.freeTick := rfl

@[simp] theorem State.enterSeeking_pending (s : State) : s.enterSeeking.pending = s.pending := rfl

@[simp] theorem State.enterConfirming_pool (s : State) (b : Byte) : (s.enterConfirming b).pool = s.pool := rfl

@[simp] theorem State.enterConfirming_frames (s : State) (b : Byte) : (s.enterConfirming b).frames = s.frames := rfl

@[simp] theorem State.enterConfirming_pointer (s : State) (b : Byte) : (s.enterConfirming b).pointer = s.pointer :=
    rfl

@[simp] theorem State.enterConfirming_framer (s : State) (b : Byte) : (s.enterConfirming b).framer = s.framer := rfl

@[simp] theorem State.enterConfirming_engine (s : State) (b : Byte) : (s.enterConfirming b).engine = s.engine := rfl

@[simp] theorem State.enterConfirming_classifier (s : State) (b : Byte) : (s.enterConfirming b).classifier = s.classifier :=
    rfl

@[simp] theorem State.enterConfirming_lease (s : State) (b : Byte) : (s.enterConfirming b).lease = s.lease := rfl

@[simp] theorem State.enterConfirming_params (s : State) (b : Byte) : (s.enterConfirming b).params = s.params := rfl

@[simp] theorem State.enterConfirming_resetAsserted (s : State) (b : Byte) : (s.enterConfirming b).resetAsserted = s.resetAsserted :=
    rfl

@[simp] theorem State.enterConfirming_freeTick (s : State) (b : Byte) : (s.enterConfirming b).freeTick = s.freeTick :=
    rfl

@[simp] theorem State.enterConfirming_pending (s : State) (b : Byte) : (s.enterConfirming b).pending = s.pending :=
    rfl

@[simp] theorem State.enterUp_pool (s : State) : s.enterUp.pool = s.pool := rfl

@[simp] theorem State.enterUp_frames (s : State) : s.enterUp.frames = s.frames := rfl

@[simp] theorem State.enterUp_pointer (s : State) : s.enterUp.pointer = s.pointer := rfl

@[simp] theorem State.enterUp_framer (s : State) : s.enterUp.framer = s.framer := rfl

@[simp] theorem State.enterUp_classifier (s : State) : s.enterUp.classifier = s.classifier := rfl

@[simp] theorem State.enterUp_lease (s : State) : s.enterUp.lease = s.lease := rfl

@[simp] theorem State.enterUp_params (s : State) : s.enterUp.params = s.params := rfl

@[simp] theorem State.enterUp_resetAsserted (s : State) : s.enterUp.resetAsserted = s.resetAsserted := rfl

@[simp] theorem State.enterUp_freeTick (s : State) : s.enterUp.freeTick = s.freeTick := rfl

@[simp] theorem State.enterUp_pending (s : State) : s.enterUp.pending = s.pending := rfl

@[simp] theorem State.enterLost_pool (s : State) (c : LossCause) : (s.enterLost c).pool = s.pool := rfl

@[simp] theorem State.enterLost_frames (s : State) (c : LossCause) : (s.enterLost c).frames = s.frames := rfl

@[simp] theorem State.enterLost_pointer (s : State) (c : LossCause) : (s.enterLost c).pointer = s.pointer := rfl

@[simp] theorem State.enterLost_framer (s : State) (c : LossCause) : (s.enterLost c).framer = s.framer := rfl

@[simp] theorem State.enterLost_engine (s : State) (c : LossCause) : (s.enterLost c).engine = s.engine := rfl

@[simp] theorem State.enterLost_classifier (s : State) (c : LossCause) : (s.enterLost c).classifier = s.classifier :=
    rfl

@[simp] theorem State.enterLost_lease (s : State) (c : LossCause) : (s.enterLost c).lease = s.lease := rfl

@[simp] theorem State.enterLost_params (s : State) (c : LossCause) : (s.enterLost c).params = s.params := rfl

@[simp] theorem State.enterLost_resetAsserted (s : State) (c : LossCause) : (s.enterLost c).resetAsserted = s.resetAsserted :=
    rfl

@[simp] theorem State.enterLost_freeTick (s : State) (c : LossCause) : (s.enterLost c).freeTick = s.freeTick := rfl

@[simp] theorem State.enterLost_pending (s : State) (c : LossCause) : (s.enterLost c).pending = s.pending := rfl

@[simp] theorem State.cutOff_frames (s : State) (r : RxState) : (s.cutOff r).frames = s.frames := by
  unfold State.cutOff; split <;> simp

@[simp] theorem State.cutOff_pointer (s : State) (r : RxState) : (s.cutOff r).pointer = s.pointer := by
  unfold State.cutOff; split <;> simp

@[simp] theorem State.cutOff_link (s : State) (r : RxState) : (s.cutOff r).link = s.link := by
  unfold State.cutOff; split <;> simp

@[simp] theorem State.cutOff_classifier (s : State) (r : RxState) : (s.cutOff r).classifier = s.classifier := by
  unfold State.cutOff; split <;> simp

@[simp] theorem State.cutOff_lease (s : State) (r : RxState) : (s.cutOff r).lease = s.lease := by
  unfold State.cutOff; split <;> simp

@[simp] theorem State.cutOff_params (s : State) (r : RxState) : (s.cutOff r).params = s.params := by
  unfold State.cutOff; split <;> simp

@[simp] theorem State.cutOff_resetAsserted (s : State) (r : RxState) : (s.cutOff r).resetAsserted = s.resetAsserted := by
  unfold State.cutOff; split <;> simp

@[simp] theorem State.cutOff_freeTick (s : State) (r : RxState) : (s.cutOff r).freeTick = s.freeTick := by
  unfold State.cutOff; split <;> simp

@[simp] theorem State.cutOff_pending (s : State) (r : RxState) : (s.cutOff r).pending = s.pending := by
  unfold State.cutOff; split <;> simp

@[simp] theorem State.requeue_pool (s : State) (w : List WindowEntry) (p : Port) : (s.requeue w p).pool = s.pool :=
    rfl

@[simp] theorem State.requeue_frames (s : State) (w : List WindowEntry) (p : Port) : (s.requeue w p).frames = s.frames :=
    rfl

@[simp] theorem State.requeue_pointer (s : State) (w : List WindowEntry) (p : Port) : (s.requeue w p).pointer = s.pointer :=
    rfl

@[simp] theorem State.requeue_framer (s : State) (w : List WindowEntry) (p : Port) : (s.requeue w p).framer = s.framer :=
    rfl

@[simp] theorem State.requeue_link (s : State) (w : List WindowEntry) (p : Port) : (s.requeue w p).link = s.link :=
    rfl

@[simp] theorem State.requeue_engine (s : State) (w : List WindowEntry) (p : Port) : (s.requeue w p).engine = s.engine :=
    rfl

@[simp] theorem State.requeue_classifier (s : State) (w : List WindowEntry) (p : Port) : (s.requeue w p).classifier = s.classifier :=
    rfl

@[simp] theorem State.requeue_lease (s : State) (w : List WindowEntry) (p : Port) : (s.requeue w p).lease = s.lease :=
    rfl

@[simp] theorem State.requeue_params (s : State) (w : List WindowEntry) (p : Port) : (s.requeue w p).params = s.params :=
    rfl

@[simp] theorem State.requeue_resetAsserted (s : State) (w : List WindowEntry) (p : Port) : (s.requeue w p).resetAsserted = s.resetAsserted :=
    rfl

@[simp] theorem State.requeue_freeTick (s : State) (w : List WindowEntry) (p : Port) : (s.requeue w p).freeTick = s.freeTick :=
    rfl

@[simp] theorem State.requeue_pending (s : State) (w : List WindowEntry) (p : Port) : (s.requeue w p).pending = s.pending :=
    rfl

@[simp] theorem State.startRound_pool (s : State) (n : Seq) : (s.startRound n).pool = s.pool := rfl

@[simp] theorem State.startRound_ports (s : State) (n : Seq) : (s.startRound n).ports = s.ports := rfl

@[simp] theorem State.startRound_frames (s : State) (n : Seq) : (s.startRound n).frames = s.frames := rfl

@[simp] theorem State.startRound_pointer (s : State) (n : Seq) : (s.startRound n).pointer = s.pointer := rfl

@[simp] theorem State.startRound_framer (s : State) (n : Seq) : (s.startRound n).framer = s.framer := rfl

@[simp] theorem State.startRound_link (s : State) (n : Seq) : (s.startRound n).link = s.link := rfl

@[simp] theorem State.startRound_classifier (s : State) (n : Seq) : (s.startRound n).classifier = s.classifier := rfl

@[simp] theorem State.startRound_lease (s : State) (n : Seq) : (s.startRound n).lease = s.lease := rfl

@[simp] theorem State.startRound_params (s : State) (n : Seq) : (s.startRound n).params = s.params := rfl

@[simp] theorem State.startRound_resetAsserted (s : State) (n : Seq) : (s.startRound n).resetAsserted = s.resetAsserted :=
    rfl

@[simp] theorem State.startRound_freeTick (s : State) (n : Seq) : (s.startRound n).freeTick = s.freeTick := rfl

@[simp] theorem State.startRound_pending (s : State) (n : Seq) : (s.startRound n).pending = s.pending := rfl

@[simp] theorem State.oweAck_pool (s : State) : s.oweAck.pool = s.pool := by unfold State.oweAck; split <;> rfl

@[simp] theorem State.oweAck_ports (s : State) : s.oweAck.ports = s.ports := by unfold State.oweAck; split <;> rfl

@[simp] theorem State.oweAck_frames (s : State) : s.oweAck.frames = s.frames := by unfold State.oweAck; split <;> rfl

@[simp] theorem State.oweAck_pointer (s : State) : s.oweAck.pointer = s.pointer := by
  unfold State.oweAck; split <;> rfl

@[simp] theorem State.oweAck_framer (s : State) : s.oweAck.framer = s.framer := by unfold State.oweAck; split <;> rfl

@[simp] theorem State.oweAck_link (s : State) : s.oweAck.link = s.link := by unfold State.oweAck; split <;> rfl

@[simp] theorem State.oweAck_classifier (s : State) : s.oweAck.classifier = s.classifier := by
  unfold State.oweAck; split <;> rfl

@[simp] theorem State.oweAck_lease (s : State) : s.oweAck.lease = s.lease := by unfold State.oweAck; split <;> rfl

@[simp] theorem State.oweAck_params (s : State) : s.oweAck.params = s.params := by unfold State.oweAck; split <;> rfl

@[simp] theorem State.oweAck_resetAsserted (s : State) : s.oweAck.resetAsserted = s.resetAsserted := by
  unfold State.oweAck; split <;> rfl

@[simp] theorem State.oweAck_freeTick (s : State) : s.oweAck.freeTick = s.freeTick := by
  unfold State.oweAck; split <;> rfl

@[simp] theorem State.oweAck_pending (s : State) : s.oweAck.pending = s.pending := by
  unfold State.oweAck; split <;> rfl

@[simp] theorem State.oweReject_pool (s : State) : s.oweReject.pool = s.pool := by
  unfold State.oweReject; split <;> rfl

@[simp] theorem State.oweReject_ports (s : State) : s.oweReject.ports = s.ports := by
  unfold State.oweReject; split <;> rfl

@[simp] theorem State.oweReject_frames (s : State) : s.oweReject.frames = s.frames := by
  unfold State.oweReject; split <;> rfl

@[simp] theorem State.oweReject_pointer (s : State) : s.oweReject.pointer = s.pointer := by
  unfold State.oweReject; split <;> rfl

@[simp] theorem State.oweReject_framer (s : State) : s.oweReject.framer = s.framer := by
  unfold State.oweReject; split <;> rfl

@[simp] theorem State.oweReject_link (s : State) : s.oweReject.link = s.link := by
  unfold State.oweReject; split <;> rfl

@[simp] theorem State.oweReject_classifier (s : State) : s.oweReject.classifier = s.classifier := by
  unfold State.oweReject; split <;> rfl

@[simp] theorem State.oweReject_lease (s : State) : s.oweReject.lease = s.lease := by
  unfold State.oweReject; split <;> rfl

@[simp] theorem State.oweReject_params (s : State) : s.oweReject.params = s.params := by
  unfold State.oweReject; split <;> rfl

@[simp] theorem State.oweReject_resetAsserted (s : State) : s.oweReject.resetAsserted = s.resetAsserted := by
  unfold State.oweReject; split <;> rfl

@[simp] theorem State.oweReject_freeTick (s : State) : s.oweReject.freeTick = s.freeTick := by
  unfold State.oweReject; split <;> rfl

@[simp] theorem State.oweReject_pending (s : State) : s.oweReject.pending = s.pending := by
  unfold State.oweReject; split <;> rfl

@[simp] theorem State.holdOnLine_frames (s : State) (p : Port) (f : Frame) : (s.holdOnLine p f).frames = s.frames := by
  unfold State.holdOnLine; split <;> simp

@[simp] theorem State.holdOnLine_pointer (s : State) (p : Port) (f : Frame) : (s.holdOnLine p f).pointer = s.pointer := by
  unfold State.holdOnLine; split <;> simp

@[simp] theorem State.holdOnLine_link (s : State) (p : Port) (f : Frame) : (s.holdOnLine p f).link = s.link := by
  unfold State.holdOnLine; split <;> simp

@[simp] theorem State.holdOnLine_classifier (s : State) (p : Port) (f : Frame) : (s.holdOnLine p f).classifier = s.classifier := by
  unfold State.holdOnLine; split <;> simp

@[simp] theorem State.holdOnLine_lease (s : State) (p : Port) (f : Frame) : (s.holdOnLine p f).lease = s.lease := by
  unfold State.holdOnLine; split <;> simp

@[simp] theorem State.holdOnLine_params (s : State) (p : Port) (f : Frame) : (s.holdOnLine p f).params = s.params := by
  unfold State.holdOnLine; split <;> simp

@[simp] theorem State.holdOnLine_resetAsserted (s : State) (p : Port) (f : Frame) : (s.holdOnLine p f).resetAsserted = s.resetAsserted := by
  unfold State.holdOnLine; split <;> simp

@[simp] theorem State.holdOnLine_freeTick (s : State) (p : Port) (f : Frame) : (s.holdOnLine p f).freeTick = s.freeTick := by
  unfold State.holdOnLine; split <;> simp

@[simp] theorem State.holdOnLine_pending (s : State) (p : Port) (f : Frame) : (s.holdOnLine p f).pending = s.pending := by
  unfold State.holdOnLine; split <;> simp

end Sys2Proof.Machine
end

