-- ==== Sys2Proof/Laws/Ops.lean ====
section
/-! SUPPORT. One lemma for each shared operation: what it can do, said once, so that a proof cites it instead of unfolding
the operation. -/

namespace Sys2Proof.Machine

/-! ### Events -/

/-- Raising sets the event's flag and keeps the others; the line follows (R170, R171). -/
theorem EventUnit.raise_eq (u : EventUnit) (e : Event) :
    u.raise e = { flags := u.flags ||| e.bit, mask := u.mask, irq := ((u.flags ||| e.bit) &&& u.mask) != 0#11 } := rfl

/-- The line follows the flags after every update of the unit (R171). -/
theorem EventUnit.raise_irq (u : EventUnit) (e : Event) : (u.raise e).irq = (u.raise e).pending := rfl

theorem EventUnit.acknowledge_irq (u : EventUnit) (n : BitVec 11) :
    (u.acknowledge n).irq = (u.acknowledge n).pending := rfl

theorem EventUnit.setMask_irq (u : EventUnit) (m : BitVec 11) : (u.setMask m).irq = (u.setMask m).pending := rfl

/-! ### The pool -/

/-- Shared free depends on free, holdings and floors alone (R5). -/
theorem State.sharedFree_congr {s t : State} (hf : s.pool.free = t.pool.free)
    (hp : ∀ q, (s.port q).reservation = (t.port q).reservation) : s.sharedFree = t.sharedFree := by
  simp only [State.sharedFree, State.reservations, hf, hp]

@[simp] theorem State.sharedFree_recordLevel (s : State) : s.recordLevel.sharedFree = s.sharedFree := rfl

@[simp] theorem State.sharedFree_raiseAll (s : State) (e : Event) : (s.raiseAll e).sharedFree = s.sharedFree := rfl

/-- The judgement of POOL_LOW: POOL_LOW on every port on a fall below P14, and the level recorded (R15). -/
theorem State.judgePoolLow_cases (s : State) :
    (s.judgePoolLow = (s.raiseAll .poolLow).recordLevel ∧ s.sharedFree < s.params.poolLow ∧
        s.pool.level = .atOrAbove) ∨
      (s.judgePoolLow = s.recordLevel ∧ ¬(s.sharedFree < s.params.poolLow ∧ s.pool.level = .atOrAbove)) := by
  unfold State.judgePoolLow
  split
  · exact .inl ⟨rfl, ‹_ ∧ _›⟩
  · exact .inr ⟨rfl, ‹_›⟩

@[simp] theorem State.sharedFree_judgePoolLow (s : State) : s.judgePoolLow.sharedFree = s.sharedFree := by
  obtain ⟨h, -⟩ | ⟨h, -⟩ := s.judgePoolLow_cases <;> simp [h]

/-- The end of the halting of the peer: with a GO owed, or nothing (R113). -/
theorem State.resumePeer_cases (s : State) :
    (s.resumePeer = { s with engine := { s.engine with haltingPeer := false, flowOwed := .go } } ∧
        s.engine.haltingPeer = true ∧ s.params.resume ≤ s.sharedFree) ∨
      (s.resumePeer = s ∧ ¬(s.engine.haltingPeer = true ∧ s.params.resume ≤ s.sharedFree)) := by
  unfold State.resumePeer
  split
  · exact .inl ⟨rfl, ‹_ ∧ _›⟩
  · exact .inr ⟨rfl, ‹_›⟩

@[simp] theorem State.port_resumePeer (s : State) (q : Port) : s.resumePeer.port q = s.port q := by
  unfold State.port; simp

/-- Judging the pool changes no port but its event unit (R15). -/
theorem State.port_settlePool (s : State) (q : Port) :
    s.settlePool.port q = s.port q ∨ s.settlePool.port q = (s.port q).raise .poolLow := by
  unfold State.settlePool
  rw [State.port_resumePeer]
  obtain ⟨h, -⟩ | ⟨h, -⟩ := s.judgePoolLow_cases
  · rw [h]; exact .inr (s.port_raiseAll .poolLow q)
  · rw [h]; exact .inl rfl

@[simp] theorem State.settlePool_free (s : State) : s.settlePool.pool.free = s.pool.free := by
  unfold State.settlePool
  rw [State.resumePeer_pool]
  obtain ⟨h, -⟩ | ⟨h, -⟩ := s.judgePoolLow_cases <;> rw [h] <;> rfl

@[simp] theorem State.settlePool_inbound (s : State) : s.settlePool.pool.inbound = s.pool.inbound := by
  unfold State.settlePool
  rw [State.resumePeer_pool]
  obtain ⟨h, -⟩ | ⟨h, -⟩ := s.judgePoolLow_cases <;> rw [h] <;> rfl

@[simp] theorem State.settlePool_freeCells (s : State) : s.settlePool.pool.freeCells = s.pool.freeCells := by
  unfold State.settlePool
  rw [State.resumePeer_pool]
  obtain ⟨h, -⟩ | ⟨h, -⟩ := s.judgePoolLow_cases <;> rw [h] <;> rfl

@[simp] theorem State.settlePool_inboundCells (s : State) :
    s.settlePool.pool.inboundCells = s.pool.inboundCells := by
  unfold State.settlePool
  rw [State.resumePeer_pool]
  obtain ⟨h, -⟩ | ⟨h, -⟩ := s.judgePoolLow_cases <;> rw [h] <;> rfl

@[simp] theorem State.settlePool_holdings (s : State) (q : Port) :
    (s.settlePool.port q).holdings = (s.port q).holdings := by
  obtain h | h := s.port_settlePool q <;> simp [h]

@[simp] theorem State.settlePool_slot (s : State) (q : Port) : (s.settlePool.port q).slot = (s.port q).slot := by
  obtain h | h := s.port_settlePool q <;> simp [h]

@[simp] theorem State.settlePool_queue (s : State) (q : Port) : (s.settlePool.port q).queue = (s.port q).queue := by
  obtain h | h := s.port_settlePool q <;> simp [h]

@[simp] theorem State.settlePool_rx (s : State) (q : Port) : (s.settlePool.port q).rx = (s.port q).rx := by
  obtain h | h := s.port_settlePool q <;> simp [h]

@[simp] theorem State.settlePool_cpl (s : State) (q : Port) : (s.settlePool.port q).cpl = (s.port q).cpl := by
  obtain h | h := s.port_settlePool q <;> simp [h]

@[simp] theorem State.settlePool_floor (s : State) (q : Port) : (s.settlePool.port q).floor = (s.port q).floor := by
  obtain h | h := s.port_settlePool q <;> simp [h]

@[simp] theorem State.settlePool_ceiling (s : State) (q : Port) :
    (s.settlePool.port q).ceiling = (s.port q).ceiling := by
  obtain h | h := s.port_settlePool q <;> simp [h]

@[simp] theorem State.settlePool_window (s : State) : s.settlePool.engine.window = s.engine.window := by
  unfold State.settlePool
  obtain ⟨h, -⟩ | ⟨h, -⟩ := s.judgePoolLow.resumePeer_cases <;> rw [h] <;> simp

/-- Judging the pool leaves the engine as it was, or ends the halting of the peer (R113). -/
theorem State.settlePool_engine (s : State) :
    s.settlePool.engine = s.engine ∨
      (s.settlePool.engine = { s.engine with haltingPeer := false, flowOwed := .go } ∧ s.engine.haltingPeer = true ∧
        s.params.resume ≤ s.sharedFree) := by
  unfold State.settlePool
  obtain ⟨h, hh⟩ | ⟨h, -⟩ := s.judgePoolLow.resumePeer_cases
  · simp only [State.judgePoolLow_engine, State.judgePoolLow_params, State.sharedFree_judgePoolLow] at hh
    exact .inr ⟨by rw [h]; simp, hh⟩
  · rw [h]; simp

/-- Cells of the inbound account are freed with what was stored in them; without any, nothing is judged (R9, R10). -/
theorem State.releaseInbound_cases (s : State) :
    let returned : State :=
      { s with
        pool :=
          { s.pool with
            free := s.pool.free + s.pool.inbound, inbound := 0
            freeCells := s.pool.freeCells ++ s.pool.inboundCells, inboundCells := [] }
        framer := { s.framer with stored := [] } }
    (s.pool.inbound = 0 ∧ s.releaseInbound = returned) ∨
      (s.pool.inbound ≠ 0 ∧ s.releaseInbound = returned.settlePool) := by
  unfold State.releaseInbound
  dsimp only
  split
  · exact .inl ⟨‹_›, rfl⟩
  · exact .inr ⟨‹_›, rfl⟩

/-- The inbound account is empty after a release (R10). -/
@[simp] theorem State.releaseInbound_inbound (s : State) : s.releaseInbound.pool.inbound = 0 := by
  obtain ⟨-, e⟩ | ⟨-, e⟩ := s.releaseInbound_cases <;> rw [e]
  rw [State.settlePool_inbound]

@[simp] theorem State.releaseInbound_free (s : State) :
    s.releaseInbound.pool.free = s.pool.free + s.pool.inbound := by
  obtain ⟨-, e⟩ | ⟨-, e⟩ := s.releaseInbound_cases <;> rw [e]
  rw [State.settlePool_free]

/-- What the pool draws from its free cells are that many of them, and the others are left (R1, R21). -/
theorem drawCells_perm (tick k : Nat) (l : List Nat) (h : k ≤ l.length) :
    (drawCells tick k l).1.length = k ∧ ((drawCells tick k l).1 ++ (drawCells tick k l).2).Perm l := by
  induction k generalizing tick l with
  | zero => exact ⟨rfl, .refl _⟩
  | succ k ih =>
    have hi : Config.cellChoice tick % l.length < l.length := Nat.mod_lt _ (by omega)
    obtain ⟨hl, hp⟩ := ih (tick + 1) (l.eraseIdx (Config.cellChoice tick % l.length))
      (by rw [List.length_eraseIdx_of_lt hi]; omega)
    simp only [drawCells, List.getElem?_eq_getElem hi, Option.toList_some]
    refine ⟨by simp [hl], ?_⟩
    simpa using (hp.cons _).trans (List.getElem_cons_eraseIdx_perm hi)

/-! ### References -/

/-- A dropped reference: nothing without the frame; the frame ends with its last reference; payment passes on when the
payer lets go; else only the count falls (R14). -/
theorem State.dropReference_cases (s : State) (p : Port) (n : Nat) :
    (s.frame? n = none ∧ s.dropReference p n = s) ∨
      ∃ f, s.frame? n = some f ∧
        ((f.refs.getD 0 - 1 = 0 ∧
            s.dropReference p n = (s.returnFrames (f.payer.getD p) [f]).dropFrame n) ∨
          (∃ q, f.payer = some p ∧ s.lowestHolder n = some q ∧
            s.dropReference p n =
              (s.movePayment p q f.cellCount).putFrame n
                { f with refs := some (f.refs.getD 0 - 1), payer := some q }) ∨
          s.dropReference p n = s.putFrame n { f with refs := some (f.refs.getD 0 - 1) }) := by
  unfold State.dropReference
  cases hf : s.frame? n with
  | none => exact .inl ⟨rfl, rfl⟩
  | some f =>
    refine .inr ⟨f, rfl, ?_⟩
    dsimp only
    split
    · exact .inl ⟨‹_›, rfl⟩
    · split
      · cases hq : s.lowestHolder n with
        | none => exact .inr (.inr rfl)
        | some q => exact .inr (.inl ⟨q, ‹_›, rfl, rfl⟩)
      · exact .inr (.inr rfl)

/-! ### Transmissions -/

/-- The end of a transmission: none in progress, nothing; else the transmitter is IDLE, no entry is on the line, and the
cells of a frame that has already ended are freed (R65, R94, R4). -/
theorem State.endTransmission_cases (s : State) (c : List Byte) :
    (s.framer.tx = .idle ∧ s.endTransmission c = s) ∨
      ∃ t, s.framer.tx = .sending t ∧
        let ended : State :=
          { s with
            framer := { s.framer with tx := .idle, closing := c }
            engine := { s.engine with window := s.engine.window.map fun e => { e with onLine := false } } }
        ((t.held = none ∧ s.endTransmission c = ended) ∨
          ∃ p f, t.held = some (p, f) ∧ s.endTransmission c = ended.freeFrame p f) := by
  unfold State.endTransmission
  cases ht : s.framer.tx with
  | idle => exact .inl ⟨rfl, rfl⟩
  | sending t =>
    refine .inr ⟨t, rfl, ?_⟩
    dsimp only
    cases hh : t.held with
    | none => exact .inl ⟨rfl, rfl⟩
    | some x => exact .inr ⟨x.1, x.2, rfl, rfl⟩

/-- An abort ends the transmission in progress with the octets of R66; how many line octets had gone is free (log 6). -/
theorem State.abortTransmission_cases (s : State) :
    (s.framer.tx = .idle ∧ s.abortTransmission = s) ∨
      ∃ t c, s.framer.tx = .sending t ∧ (c = [Config.escape, Config.marker] ∨ c = [Config.marker]) ∧
        s.abortTransmission = State.endTransmission { s with freeTick := s.freeTick + 1 } c := by
  unfold State.abortTransmission
  cases ht : s.framer.tx with
  | idle => exact .inl ⟨rfl, rfl⟩
  | sending t =>
    refine .inr ⟨t, _, rfl, ?_, rfl⟩
    unfold abortOctets
    split
    · exact .inr rfl
    · exact .inl rfl

/-- The check register of two runs of octets (R62). -/
theorem checkOf_append (l m : List Byte) : checkOf (l ++ m) = m.foldl checkOctet (checkOf l) := by
  unfold checkOf; rw [List.foldl_append]

theorem lineOctets_append (l m : List Byte) : lineOctets (l ++ m) = lineOctets l ++ lineOctets m := by
  unfold lineOctets; rw [List.flatMap_append]

/-! ### The lease -/

/-- The end of a holding: nothing when the lease is FREE; else the shadow is reverted, LEASE_LOST on expiry, and the
lease FREE or with the head of the waiting list, which is told (R154). -/
theorem State.endHolding_cases (s : State) (expired : Bool) :
    (s.lease.holder = none ∧ s.endHolding expired = s) ∨
      ∃ h, s.lease.holder = some h ∧
        let lost : State :=
          if expired then State.raise { s with classifier := s.classifier.revert } h .leaseLost
          else { s with classifier := s.classifier.revert }
        ((s.lease.waiting = [] ∧
            s.endHolding expired = { lost with lease := { holder := none, timer := .stopped, waiting := [] } }) ∨
          ∃ q rest, s.lease.waiting = q :: rest ∧
            s.endHolding expired =
              State.raise
                { lost with lease := { holder := some q, timer := .running s.params.tLease, waiting := rest } }
                q .leaseGranted) := by
  unfold State.endHolding
  cases hh : s.lease.holder with
  | none => exact .inl ⟨rfl, rfl⟩
  | some h =>
    refine .inr ⟨h, rfl, ?_⟩
    cases hw : s.lease.waiting with
    | nil => exact .inl ⟨rfl, rfl⟩
    | cons q rest => exact .inr ⟨q, rest, rfl, rfl⟩

/-! ### The link -/

/-- The start of the flush timer: left as it runs; expired at once with T_flush 0; else running (R52, R56). -/
theorem State.startFlushTimer_cases (s : State) :
    (s.link.flushTimer ≠ .stopped ∧ s.startFlushTimer = s) ∨
      (s.link.flushTimer = .stopped ∧ s.params.tFlush = 0 ∧ s.startFlushTimer = s.flushExpiry) ∨
      (s.link.flushTimer = .stopped ∧ s.params.tFlush ≠ 0 ∧
        s.startFlushTimer = { s with link := { s.link with flushTimer := .running s.params.tFlush } }) := by
  unfold State.startFlushTimer
  cases hf : s.link.flushTimer with
  | running n => exact .inl ⟨by simp, rfl⟩
  | stopped =>
    dsimp only
    split
    · exact .inr (.inl ⟨rfl, ‹_›, rfl⟩)
    · exact .inr (.inr ⟨rfl, ‹_›, rfl⟩)

/-- A reception is cut off where there is one (R71). -/
theorem State.cutOff_cases (s : State) (after : RxState) :
    (s.framer.rxState ≠ .receiving ∧ s.cutOff after = s) ∨
      (s.framer.rxState = .receiving ∧
        s.cutOff after =
          { s.releaseInbound with framer := { s.releaseInbound.framer with rxState := after } }) := by
  unfold State.cutOff
  split
  · exact .inr ⟨‹_›, rfl⟩
  · exact .inl ⟨‹_›, rfl⟩

/-- The head entry acknowledged: its cells held by the line or freed, its slot converted if it is owed a record
(R96). -/
theorem State.ackHead_cases (s : State) :
    (s.engine.window = [] ∧ s.ackHead = s) ∨
      ∃ e rest, s.engine.window = e :: rest ∧
        let left : State := { s with engine := { s.engine with window := rest } }
        let paid : State :=
          if e.onLine then left.holdOnLine e.owner e.frame else left.freeFrame e.owner e.frame
        s.ackHead =
          if e.frame.notifies && !e.orphan then paid.convertSlot e.owner e.frame .acked else paid := by
  unfold State.ackHead
  cases hw : s.engine.window with
  | nil => exact .inl ⟨rfl, rfl⟩
  | cons e rest => exact .inr ⟨e, rest, rfl, rfl⟩

/-- Quieting the engine twice is quieting it once (R114). -/
@[simp] theorem Engine.quiet_quiet (e : Engine) : e.quiet.quiet = e.quiet := rfl

/-! ### Transactions -/

/-- A port that is ready has its chip select high, or bytes of a command that is not taken (R165). -/
theorem State.Ready.cases {s : State} {p : Port} (h : s.Ready p) :
    s.resetAsserted = false ∧ ((s.port p).txn = .closed ∨ ∃ got, (s.port p).txn = .selected got) := by
  obtain ⟨hr, ht⟩ := h
  refine ⟨hr, ?_⟩
  cases hx : (s.port p).txn with
  | closed => exact .inl rfl
  | selected got => exact .inr ⟨got, rfl⟩
  | opened r ph => rw [hx] at ht; cases ht
  | ignored => rw [hx] at ht; cases ht

/-- The bytes that complete: those to be shifted out in order, then 0x00 (R166, R177). -/
theorem PortState.shiftOut_eq (ps : PortState) (m : Nat) : ps.shiftOut m = ps.clocked m := by
  simp [PortState.shiftOut, PortState.clocked, zeros, List.take_append]

/-- A port whose chip select is low takes a command with the bytes that had not completed: it acts on the state as it
stands, and answers (R165 to R167). -/
theorem State.takeCommand_selected {s : State} {p : Port} {got : List Byte} (hr : s.resetAsserted = false)
    (ht : (s.port p).txn = .selected got) (n : Nat) (act : State → Taken) :
    s.takeCommand p n act = s.answered p n (act s).result (act s).reply (act s).state (act s).phase := by
  simp [State.takeCommand, hr, ht, State.takeBytes, State.answered, State.begun, Txn.completed,
    PortState.shiftOut_eq]

/-- A port whose chip select is high takes a command after its fall, with all its bytes (R165 to R167). -/
theorem State.takeCommand_closed {s : State} {p : Port} (hr : s.resetAsserted = false)
    (ht : (s.port p).txn = .closed) (n : Nat) (act : State → Taken) :
    s.takeCommand p n act =
      (let u := s.modPort p (·.fall (s.header p))
      s.answered p n (act u).result (act u).reply (act u).state (act u).phase) := by
  simp [State.takeCommand, State.selectPort, hr, ht, State.takeBytes, State.answered, State.begun, Txn.completed,
    PortState.shiftOut_eq, PortState.clocked, PortState.fall, State.header]

/-- While RESET is asserted a command leaves its transaction ignored (R165). -/
theorem State.takeCommand_reset {s : State} (h : s.resetAsserted = true) (p : Port) (n : Nat) (act : State → Taken) :
    s.takeCommand p n act = s.modPort p fun ps => { ps with txn := .ignored } := by
  unfold State.takeCommand; simp [h]

/-- An event of the trunk or a timer acts while RESET is released (R175). -/
theorem State.trunkEvent_live {s : State} (h : s.resetAsserted = false) (act : State → State) :
    s.trunkEvent act = act s := by
  unfold State.trunkEvent; simp [h]

theorem State.trunkEvent_reset {s : State} (h : s.resetAsserted = true) (act : State → State) :
    s.trunkEvent act = s := by
  unfold State.trunkEvent; simp [h]

/-! ### The receive line -/

/-- A marker is seen by a hunting and by a discarding receiver (R58, R71), and says nothing to any other. -/
theorem State.markerFound_eq (s : State) :
    s.markerFound =
      if s.framer.rxState = .hunting ∨ s.framer.rxState = .discarding then
        { s with framer := { s.framer.clockSeen with rxState := .between } }
      else s := by
  unfold State.markerFound
  cases s.framer.rxState <;> rfl

/-- The closing marker of a frame that is not in reception is a marker and nothing else (R71, R89). -/
theorem State.closeOf_eq_markerFound {s : State} {t : Option FrameType}
    (h : ¬(s.framer.rxState = .receiving ∧ s.framer.type? = t)) (hc : t = some .hello → s.framer.helloCutOff = false) :
    s.closeOf t = s.markerFound := by
  unfold State.closeOf
  refine if_neg fun k => ?_
  rcases k with k | ⟨e, k⟩
  · exact h k
  · simp [hc e] at k

end Sys2Proof.Machine
end

