-- ==== Sys2Proof/WellFormed.lean ====
section
/-! DEFINITION. Which terms of Instr stand for something that can happen: the operand checks that the rows' own words
imply (every other operand may take any value: the commands judge them). -/

namespace Sys2Proof

/-- ILLEGAL carries a code that names no command (R168). -/
def Instr.wellFormed : Instr → Bool
  | .illegal _ code => (commandArgs code).isNone
  | _ => true

end Sys2Proof
end

