-- ==== Sys2Proof/Laws/PerInstr.lean ====
section
/-! SUPPORT. What holds of every row of the table as syntax, row by row. -/

namespace Sys2Proof.Laws

/-- Sections 11.2 and 11.3: a row with a command byte is a command of a host port, its byte names a command with as many
argument bytes as the row has (R176), and no illegal code is that byte (R168). -/
def OwnCommandByte.Statement (i : Instr) : Prop :=
  ∀ code, commandByte i = some code →
    (∃ p, i.port? = some p) ∧ (∃ n, commandArgs code = some n ∧ (Machine.argumentBytes i).length = n) ∧ ∀ p, (Instr.illegal p code).wellFormed = false

theorem OwnCommandByte.nop (p : Port) : OwnCommandByte.Statement (.nop p) := by
  intro code h; cases h; exact ⟨⟨p, rfl⟩, ⟨_, rfl, rfl⟩, fun _ => rfl⟩

theorem OwnCommandByte.readStatus (p : Port) : OwnCommandByte.Statement (.readStatus p) := by
  intro code h; cases h; exact ⟨⟨p, rfl⟩, ⟨_, rfl, rfl⟩, fun _ => rfl⟩

theorem OwnCommandByte.readEvents (p : Port) : OwnCommandByte.Statement (.readEvents p) := by
  intro code h; cases h; exact ⟨⟨p, rfl⟩, ⟨_, rfl, rfl⟩, fun _ => rfl⟩

theorem OwnCommandByte.ackEvents (p : Port) (flags : Word) : OwnCommandByte.Statement (.ackEvents p flags) := by
  intro code h; cases h; exact ⟨⟨p, rfl⟩, ⟨_, rfl, rfl⟩, fun _ => rfl⟩

theorem OwnCommandByte.setEventMask (p : Port) (mask : Word) : OwnCommandByte.Statement (.setEventMask p mask) := by
  intro code h; cases h; exact ⟨⟨p, rfl⟩, ⟨_, rfl, rfl⟩, fun _ => rfl⟩

theorem OwnCommandByte.setMarks (p : Port) (high low : Byte) : OwnCommandByte.Statement (.setMarks p high low) := by
  intro code h; cases h; exact ⟨⟨p, rfl⟩, ⟨_, rfl, rfl⟩, fun _ => rfl⟩

theorem OwnCommandByte.readLink (p : Port) : OwnCommandByte.Statement (.readLink p) := by
  intro code h; cases h; exact ⟨⟨p, rfl⟩, ⟨_, rfl, rfl⟩, fun _ => rfl⟩

theorem OwnCommandByte.portReset (p : Port) : OwnCommandByte.Statement (.portReset p) := by
  intro code h; cases h; exact ⟨⟨p, rfl⟩, ⟨_, rfl, rfl⟩, fun _ => rfl⟩

theorem OwnCommandByte.openFrame (p : Port) (length : Word) : OwnCommandByte.Statement (.openFrame p length) := by
  intro code h; cases h; exact ⟨⟨p, rfl⟩, ⟨_, rfl, rfl⟩, fun _ => rfl⟩

theorem OwnCommandByte.appendData (p : Port) : OwnCommandByte.Statement (.appendData p) := by
  intro code h; cases h; exact ⟨⟨p, rfl⟩, ⟨_, rfl, rfl⟩, fun _ => rfl⟩

theorem OwnCommandByte.appendDataByte (p : Port) (b : Byte) : OwnCommandByte.Statement (.appendDataByte p b) := by
  intro code h; cases h

theorem OwnCommandByte.commitTrunk (p : Port) (address : Word) (cls tag options : Byte) :
    OwnCommandByte.Statement (.commitTrunk p address cls tag options) := by
  intro code h; cases h; exact ⟨⟨p, rfl⟩, ⟨_, rfl, rfl⟩, fun _ => rfl⟩

theorem OwnCommandByte.commitLocal (p : Port) (targets cls tag options : Byte) :
    OwnCommandByte.Statement (.commitLocal p targets cls tag options) := by
  intro code h; cases h; exact ⟨⟨p, rfl⟩, ⟨_, rfl, rfl⟩, fun _ => rfl⟩

theorem OwnCommandByte.discardFrame (p : Port) : OwnCommandByte.Statement (.discardFrame p) := by
  intro code h; cases h; exact ⟨⟨p, rfl⟩, ⟨_, rfl, rfl⟩, fun _ => rfl⟩

theorem OwnCommandByte.cancel (p : Port) (tag : Byte) : OwnCommandByte.Statement (.cancel p tag) := by
  intro code h; cases h; exact ⟨⟨p, rfl⟩, ⟨_, rfl, rfl⟩, fun _ => rfl⟩

theorem OwnCommandByte.peekRecord (p : Port) : OwnCommandByte.Statement (.peekRecord p) := by
  intro code h; cases h; exact ⟨⟨p, rfl⟩, ⟨_, rfl, rfl⟩, fun _ => rfl⟩

theorem OwnCommandByte.readFrame (p : Port) (offset : Word) : OwnCommandByte.Statement (.readFrame p offset) := by
  intro code h; cases h; exact ⟨⟨p, rfl⟩, ⟨_, rfl, rfl⟩, fun _ => rfl⟩

theorem OwnCommandByte.readFrameByte (p : Port) : OwnCommandByte.Statement (.readFrameByte p) := by
  intro code h; cases h

theorem OwnCommandByte.releaseRecord (p : Port) : OwnCommandByte.Statement (.releaseRecord p) := by
  intro code h; cases h; exact ⟨⟨p, rfl⟩, ⟨_, rfl, rfl⟩, fun _ => rfl⟩

theorem OwnCommandByte.takeCompletion (p : Port) : OwnCommandByte.Statement (.takeCompletion p) := by
  intro code h; cases h; exact ⟨⟨p, rfl⟩, ⟨_, rfl, rfl⟩, fun _ => rfl⟩

theorem OwnCommandByte.leaseAcquire (p : Port) (options : Byte) :
    OwnCommandByte.Statement (.leaseAcquire p options) := by
  intro code h; cases h; exact ⟨⟨p, rfl⟩, ⟨_, rfl, rfl⟩, fun _ => rfl⟩

theorem OwnCommandByte.leaseRenew (p : Port) : OwnCommandByte.Statement (.leaseRenew p) := by
  intro code h; cases h; exact ⟨⟨p, rfl⟩, ⟨_, rfl, rfl⟩, fun _ => rfl⟩

theorem OwnCommandByte.leaseRelease (p : Port) : OwnCommandByte.Statement (.leaseRelease p) := by
  intro code h; cases h; exact ⟨⟨p, rfl⟩, ⟨_, rfl, rfl⟩, fun _ => rfl⟩

theorem OwnCommandByte.leaseWithdraw (p : Port) : OwnCommandByte.Statement (.leaseWithdraw p) := by
  intro code h; cases h; exact ⟨⟨p, rfl⟩, ⟨_, rfl, rfl⟩, fun _ => rfl⟩

theorem OwnCommandByte.setQuota (p : Port) (port floor : Byte) (ceiling : Word) :
    OwnCommandByte.Statement (.setQuota p port floor ceiling) := by
  intro code h; cases h; exact ⟨⟨p, rfl⟩, ⟨_, rfl, rfl⟩, fun _ => rfl⟩

theorem OwnCommandByte.setParameter (p : Port) (number : Byte) (value : Word) :
    OwnCommandByte.Statement (.setParameter p number value) := by
  intro code h; cases h; exact ⟨⟨p, rfl⟩, ⟨_, rfl, rfl⟩, fun _ => rfl⟩

theorem OwnCommandByte.readParameter (p : Port) (number : Byte) :
    OwnCommandByte.Statement (.readParameter p number) := by
  intro code h; cases h; exact ⟨⟨p, rfl⟩, ⟨_, rfl, rfl⟩, fun _ => rfl⟩

theorem OwnCommandByte.tableWrite (p : Port) (index : Byte) (address mask : Word) (hosts flags : Byte) :
    OwnCommandByte.Statement (.tableWrite p index address mask hosts flags) := by
  intro code h; cases h; exact ⟨⟨p, rfl⟩, ⟨_, rfl, rfl⟩, fun _ => rfl⟩

theorem OwnCommandByte.tableClear (p : Port) (index : Byte) : OwnCommandByte.Statement (.tableClear p index) := by
  intro code h; cases h; exact ⟨⟨p, rfl⟩, ⟨_, rfl, rfl⟩, fun _ => rfl⟩

theorem OwnCommandByte.tableRead (p : Port) (selector index : Byte) :
    OwnCommandByte.Statement (.tableRead p selector index) := by
  intro code h; cases h; exact ⟨⟨p, rfl⟩, ⟨_, rfl, rfl⟩, fun _ => rfl⟩

theorem OwnCommandByte.tableCommit (p : Port) : OwnCommandByte.Statement (.tableCommit p) := by
  intro code h; cases h; exact ⟨⟨p, rfl⟩, ⟨_, rfl, rfl⟩, fun _ => rfl⟩

theorem OwnCommandByte.tableRevert (p : Port) : OwnCommandByte.Statement (.tableRevert p) := by
  intro code h; cases h; exact ⟨⟨p, rfl⟩, ⟨_, rfl, rfl⟩, fun _ => rfl⟩

theorem OwnCommandByte.trunkOn (p : Port) : OwnCommandByte.Statement (.trunkOn p) := by
  intro code h; cases h; exact ⟨⟨p, rfl⟩, ⟨_, rfl, rfl⟩, fun _ => rfl⟩

theorem OwnCommandByte.trunkOff (p : Port) : OwnCommandByte.Statement (.trunkOff p) := by
  intro code h; cases h; exact ⟨⟨p, rfl⟩, ⟨_, rfl, rfl⟩, fun _ => rfl⟩

theorem OwnCommandByte.illegal (p : Port) (code : Byte) : OwnCommandByte.Statement (.illegal p code) := by
  intro code h; cases h

theorem OwnCommandByte.transactionEnd (p : Port) (edge : Edge) :
    OwnCommandByte.Statement (.transactionEnd p edge) := by
  intro code h; cases h

theorem OwnCommandByte.deviceReset : OwnCommandByte.Statement (.deviceReset) := by
  intro code h; cases h

theorem OwnCommandByte.rxMarkerFound : OwnCommandByte.Statement (.rxMarkerFound) := by
  intro code h; cases h

theorem OwnCommandByte.rxFrameOctet (octet : Byte) : OwnCommandByte.Statement (.rxFrameOctet octet) := by
  intro code h; cases h

theorem OwnCommandByte.dataFrameReceived : OwnCommandByte.Statement (.dataFrameReceived) := by
  intro code h; cases h

theorem OwnCommandByte.ackFrameReceived : OwnCommandByte.Statement (.ackFrameReceived) := by
  intro code h; cases h

theorem OwnCommandByte.rejectFrameReceived : OwnCommandByte.Statement (.rejectFrameReceived) := by
  intro code h; cases h

theorem OwnCommandByte.haltFrameReceived : OwnCommandByte.Statement (.haltFrameReceived) := by
  intro code h; cases h

theorem OwnCommandByte.goFrameReceived : OwnCommandByte.Statement (.goFrameReceived) := by
  intro code h; cases h

theorem OwnCommandByte.helloFrameReceived : OwnCommandByte.Statement (.helloFrameReceived) := by
  intro code h; cases h

theorem OwnCommandByte.arbitration : OwnCommandByte.Statement (.arbitration) := by
  intro code h; cases h

theorem OwnCommandByte.roundDataSend : OwnCommandByte.Statement (.roundDataSend) := by
  intro code h; cases h

theorem OwnCommandByte.rejectSend : OwnCommandByte.Statement (.rejectSend) := by
  intro code h; cases h

theorem OwnCommandByte.haltSend : OwnCommandByte.Statement (.haltSend) := by
  intro code h; cases h

theorem OwnCommandByte.goSend : OwnCommandByte.Statement (.goSend) := by
  intro code h; cases h

theorem OwnCommandByte.ackSend : OwnCommandByte.Statement (.ackSend) := by
  intro code h; cases h

theorem OwnCommandByte.helloSend : OwnCommandByte.Statement (.helloSend) := by
  intro code h; cases h

theorem OwnCommandByte.transmissionEnd : OwnCommandByte.Statement (.transmissionEnd) := by
  intro code h; cases h

theorem OwnCommandByte.helloTimerExpiry : OwnCommandByte.Statement (.helloTimerExpiry) := by
  intro code h; cases h

theorem OwnCommandByte.intervalTimerExpiry : OwnCommandByte.Statement (.intervalTimerExpiry) := by
  intro code h; cases h

theorem OwnCommandByte.holdOffTimerExpiry : OwnCommandByte.Statement (.holdOffTimerExpiry) := by
  intro code h; cases h

theorem OwnCommandByte.flushTimerExpiry : OwnCommandByte.Statement (.flushTimerExpiry) := by
  intro code h; cases h

theorem OwnCommandByte.ackTimerExpiry : OwnCommandByte.Statement (.ackTimerExpiry) := by
  intro code h; cases h

theorem OwnCommandByte.ackDelayTimerExpiry : OwnCommandByte.Statement (.ackDelayTimerExpiry) := by
  intro code h; cases h

theorem OwnCommandByte.haltTimerExpiry : OwnCommandByte.Statement (.haltTimerExpiry) := by
  intro code h; cases h

theorem OwnCommandByte.leaseTimerExpiry : OwnCommandByte.Statement (.leaseTimerExpiry) := by
  intro code h; cases h

theorem OwnCommandByte.silentLine : OwnCommandByte.Statement (.silentLine) := by
  intro code h; cases h

theorem OwnCommandByte.rckClockReturn : OwnCommandByte.Statement (.rckClockReturn) := by
  intro code h; cases h

theorem OwnCommandByte.resetRelease : OwnCommandByte.Statement (.resetRelease) := by
  intro code h; cases h

theorem OwnCommandByte.unknownTypeFrameEnd : OwnCommandByte.Statement (.unknownTypeFrameEnd) := by
  intro code h; cases h

end Sys2Proof.Laws
end

