-- ==== Sys2Proof/Tests/Slice0.lean ====
section
/-! SUPPORT. Tests: the operand checks, the codes of spec/11, each command on a small state with results taken from the
spec's rules and worked examples, and for every obligation with hypotheses a state and operands that meet them. -/

set_option Elab.async false

namespace Sys2Proof.Tests

open Machine

/-! ### Operand checks and codes -/

theorem test_illegal_refuses_a_real_code : (Instr.illegal .p0 0x00#8).wellFormed = false := by decide

theorem test_illegal_accepts_an_unused_code : (Instr.illegal .p0 0x08#8).wellFormed = true := by decide

theorem test_other_rows_are_well_formed : (Instr.transactionEnd .p0 .fall).wellFormed = true := by decide

/-- No row of the table gives bits (log 16). -/
theorem test_no_word_spells_a_row : decodeTableWord 8 0x48 = none := rfl

/-- Section 11.2. -/
theorem test_command_bytes :
    commandByte (.commitTrunk .p0 0 0 0 0) = some 0x12#8 ∧ commandArgs 0x12#8 = some 5 ∧
      commandArgs 0x43#8 = some 7 ∧ commandArgs 0x4A#8 = none ∧ replyBytes 0x01#8 = 20 ∧ replyBytes 0x45#8 = 8 := by
  decide

/-- Section 11.3 with R176: the transaction of section 11.7.1, and 16-bit arguments high octet first. -/
theorem test_host_bytes :
    hostBytes (.commitTrunk .p0 0x0412 1 7 0x81) = some [0x12, 0x04, 0x12, 0x01, 0x07, 0x81] ∧
      hostBytes (.setQuota .p0 1 16 0x00C0) = some [0x40, 0x01, 0x10, 0x00, 0xC0] ∧
      hostBytes (.tableWrite .p0 3 0x2000 0xFF00 6 1) = some [0x43, 3, 0x20, 0, 0xFF, 0, 6, 1] ∧
      wordOf 0x01 0x2C = 300 ∧ hostBytes (.illegal .p0 0x08) = some [0x08] ∧ hostBytes .arbitration = none := by
  decide

/-- Sections 11.4, 11.5 and 11.6. -/
theorem test_codes :
    Result.linkDown.code = 0x2B#8 ∧ Result.notHolder.code = 0x13#8 ∧ LinkState.lost.code = 4#8 ∧
      LossCause.haltTimeout.code = 6#8 ∧ CplOutcome.noTarget.code = 5#8 ∧ Event.leaseLost.bit = 1#11 ∧
      Event.unclaimed.bit = 0x400#11 := by
  decide

/-- R62: the nine octets 0x31 to 0x39. -/
theorem test_check_reference :
    checkOf [0x31, 0x32, 0x33, 0x34, 0x35, 0x36, 0x37, 0x38, 0x39] = 0x29B1#16 ∧
      (withCheck [0x31, 0x32, 0x33, 0x34, 0x35, 0x36, 0x37, 0x38, 0x39]).drop 9 = [0xD6#8, 0x4E#8] := by
  decide +kernel

/-! ### Small states -/

/-- The state a command leaves. -/
def tell (c : Instr) (s : State) : State :=
  match exec c s with
  | .next t => t
  | .fault f => nomatch f
  | .refused _ => s

/-- A run of commands. -/
def play (l : List Instr) (s : State) : State := l.foldl (fun t c => tell c t) s

/-- Port p edited. -/
def edit (s : State) (p : Port) (f : PortState → PortState) : State := s.modPort p f

/-- P0 holds the lease and P2 waits for it. -/
def held : State := { State.reset with lease := { holder := some .p0, timer := .running 1000, waiting := [.p2] } }

/-- The link is UP, the receiver BETWEEN. -/
def up : State :=
  { State.reset with
    link := { Link.reset with state := .up, peer := some 9, intervalTimer := .running 10, helloTimer := .running 10 }
    framer := { Framer.reset with rxState := .between, watch := .running } }

/-- The link is in a given state. -/
def linked (l : LinkState) (s : State) : State := { s with link := { s.link with state := l } }

/-- A frame of two bytes as committed by P0. -/
def waiting (tag : Byte) (notify : Bool) : Frame :=
  { cells := [tag.toNat], length := 2, payload := [0x41, 0xA9], origin := .port .p0, state := .waiting, cls := some 2
    address := some 0xA9A8, tag := some tag, notify := some notify, refs := none, payer := none }

/-- The same frame under construction, full. -/
def built : Frame :=
  { cells := [30], length := 2, payload := [0x41, 0xA9], origin := .port .p0, state := .building, cls := none, address := none
    tag := none, notify := none, refs := none, payer := none }

/-- P0's build slot holds a full frame. -/
def slotted : State := edit State.reset .p0 fun ps => { ps with slot := some built, holdings := 1 }

/-- P0's queue holds two frames, the first with a completion slot. -/
def queued : State :=
  edit up .p0 fun ps =>
    { ps with queue := [waiting 7 true, waiting 8 false], holdings := 2, cpl := { records := [], reserved := 1 } }

/-- A window entry of P0. -/
def entry (seq : Seq) (tag : Byte) : WindowEntry :=
  { seq := seq, frame := { waiting tag true with state := .inWindow }, owner := .p0, retry := 0, orphan := false
    onLine := false }

/-- The window of the example in R95: entries 3, 4 and 5, and V(S) at 6. -/
def windowed : State :=
  edit
    { up with
      engine := { Engine.reset with window := [entry 3 1, entry 4 2, entry 5 3], vs := 6, ackTimer := .running 20 } }
    .p0 fun ps => { ps with holdings := 3, cpl := { records := [], reserved := 3 } }

/-- A delivered frame of 100 bytes with records on P1 and P2, paid by P1. -/
def delivered : State :=
  let f : Frame :=
    { cells := [20, 21], length := 100, payload := (List.range 100).map (BitVec.ofNat 8), origin := .trunk, state := .delivered
      cls := some 0, address := some 5, tag := none, notify := none, refs := some 2, payer := some .p1 }
  let r : RxRecord :=
    { frame := 1, length := 100, source := .fromTrunk 5, cls := 0, first := some 3, delivered := 6 }
  let s : State := { State.reset with frames := [(1, f)] }
  edit (edit s .p1 fun ps => { ps with holdings := 2, rx := { ps.rx with records := [r] } }) .p2 fun ps =>
    { ps with rx := { ps.rx with records := [r] } }

/-- The line octets of a frame, received after a marker. -/
def feed (l : List Byte) (s : State) : State := play ((lineOctets l).map Instr.rxFrameOctet) s

/-! ### The host port and its events -/

theorem test_nop : ((tell (.nop .p1) held).port .p1).answer = [0x00, 0x00] ∧
    ((tell (.nop .p0) held).port .p0).answer = [0x08, 0x00] := by decide +kernel

/-- Section 11.4 over the values of R19 and R175. -/
theorem test_readStatus :
    ((tell (.readStatus .p0) State.reset).port .p0).answer =
      [0, 0, 2, 0, 1, 0xC0, 0, 0, 16, 0, 192, 0, 0, 0, 0, 0, 0, 0, 0, 0, 0, 0] := by decide +kernel

theorem test_readStatus_counts :
    (((tell (.readStatus .p0) queued).port .p0).answer.drop 11).take 6 = [2, 0, 0, 1, 3, 0] := by decide +kernel

/-- LEASE_LOST ranks above LINK_CHANGE, and a masked flag is never the top event (R172). -/
theorem test_readEvents :
    let s (mask : BitVec 11) := edit State.reset .p0 fun ps => { ps with events := { flags := 3, mask := mask, irq := true } }
    ((tell (.readEvents .p0) (s 3)).port .p0).answer.drop 2 = [0, 3, 0, 3, 1] ∧
      ((tell (.readEvents .p0) (s 2)).port .p0).answer.drop 2 = [0, 3, 0, 2, 2] ∧
      ((tell (.readEvents .p0) (s 0)).port .p0).answer.drop 2 = [0, 3, 0, 0, 0] := by decide +kernel

/-- R170: bits that name no event are ignored. -/
theorem test_ackEvents :
    let s := edit State.reset .p0 fun ps => { ps with events := { flags := 7, mask := 7, irq := true } }
    ((tell (.ackEvents .p0 0xF805) s).port .p0).events = { flags := 2, mask := 7, irq := true } ∧
      ((tell (.ackEvents .p0 0x0007) s).port .p0).events = { flags := 0, mask := 7, irq := false } := by decide +kernel

/-- R171: unmasking a set flag asserts the line at once. -/
theorem test_setEventMask :
    let s := edit State.reset .p0 fun ps => { ps with events := { flags := 4, mask := 0, irq := false } }
    ((tell (.setEventMask .p0 0x0004) s).port .p0).events.irq = true ∧
      ((tell (.setEventMask .p0 0xF803) s).port .p0).events = { flags := 4, mask := 3, irq := false } := by
  decide +kernel

/-- R174: quotas stay, the lease passes on, the window entry becomes an orphan. -/
theorem test_portReset :
    let t := tell (.portReset .p0) { queued with lease := held.lease, engine := windowed.engine }
    (t.port .p0).queue = [] ∧ (t.port .p0).cpl = { records := [], reserved := 0 } ∧ (t.port .p0).floor = 16 ∧
      t.lease.holder = some .p2 ∧ t.flagged .p2 .leaseGranted ∧ (t.engine.window.all (·.orphan)) = true := by
  decide +kernel

/-- R14: the payer's reset passes payment on; the last reference frees the frame. -/
theorem test_portReset_references :
    let t := tell (.portReset .p1) delivered
    (t.port .p1).holdings = 0 ∧ (t.port .p2).holdings = 2 ∧ ((tell (.portReset .p2) t).port .p2).holdings = 0 ∧
      (tell (.portReset .p2) t).frames = [] := by decide +kernel

theorem test_illegal :
    (tell (.illegal .p0 0x08) State.reset).resultOn .p0 = some .illegal ∧
      ((play [.illegal .p0 0x08, .transactionEnd .p0 .rise, .nop .p0] State.reset).port .p0).answer = [0, 0x10] := by
  decide +kernel

/-- The bytes of a transaction on p from the fall of chip select on. -/
def shifted (p : Port) (l : List Byte) : List Instr := .transactionEnd p .fall :: l.map (Instr.appendDataByte p)

/-- The worked example of section 10.1.1, with four of its payload bytes. -/
theorem test_transactionEnd_bytes :
    let t := play (shifted .p1 [0x10, 0x01, 0x2C]) State.reset
    let u := play (shifted .p1 [0x11, 1, 2, 3, 4]) (tell (.transactionEnd .p1 .rise) t)
    (t.port .p1).out = [0, 0, 0] ∧ (t.port .p1).holdings = 5 ∧ t.resultOn .p1 = some .ok ∧
      (u.port .p1).out = [4, 0, 0, 0, 0] ∧ ((u.port .p1).slot.map (·.payload)) = some [1, 2, 3, 4] := by decide +kernel

/-- Section 10.1.1: chip select rises after byte 1 of OPEN FRAME, and APPEND DATA finds the slot closed. -/
theorem test_transactionEnd_truncated :
    let t := play (shifted .p1 [0x10, 0x01] ++ [.transactionEnd .p1 .rise]) State.reset
    let u := play (shifted .p1 [0x11, 7]) t
    (t.port .p1).slot = none ∧ (t.port .p1).prevResult = .truncated ∧ (u.port .p1).out = [0, 0x11] ∧
      u.resultOn .p1 = some .noFrame ∧ (u.port .p1).slot = none := by decide +kernel

/-- R167: without a command byte nothing changes; R169: the status byte is that of the fall of chip select. -/
theorem test_transactionEnd_fall :
    let t := play [.transactionEnd .p0 .fall, .leaseAcquire .p1 0, .trunkOn .p1] State.reset
    ((tell (.transactionEnd .p0 .rise) t).port .p0).prevResult = .ok ∧
      (edit held .p0 id).statusByte .p0 = 8 ∧
      ((play [.transactionEnd .p0 .fall, .leaseTimerExpiry, .nop .p0] held).port .p0).answer = [8, 0] := by
  decide +kernel

/-- R177: the bytes behind a command are ignored, and 0x00 follows its reply. -/
theorem test_bytes_behind_a_command :
    let t := play (shifted .p0 [0x42, 13, 9, 9] ++ [.readFrameByte .p0]) State.reset
    (t.port .p0).out = [0, 0, 0x03, 0xE8, 0] ∧ t.resultOn .p0 = some .ok := by decide +kernel

/-- R165: a transaction met by the release of RESET is ignored to its end. -/
theorem test_deviceReset_and_release :
    let t := play [.deviceReset, .openFrame .p0 1, .resetRelease, .openFrame .p0 1] held
    (t.port .p0).slot = none ∧ t.lease.holder = none ∧
      (tell (.openFrame .p0 1) (tell (.transactionEnd .p0 .rise) t)).resultOn .p0 = some .ok := by decide +kernel

/-- R175: a transaction in progress ends at the reset and sets no previous result; its last bytes after the release are
not taken. -/
theorem test_deviceReset_in_a_transaction :
    let t := play (shifted .p0 [0x10] ++ [.deviceReset, .resetRelease, .appendDataByte .p0 0, .appendDataByte .p0 1])
      State.reset
    (t.port .p0).slot = none ∧ ((tell (.transactionEnd .p0 .rise) t).port .p0).prevResult = .ok ∧
      ((tell (.transactionEnd .p0 .rise) t).port .p0).txn = .closed := by decide +kernel

/-! ### Building and committing -/

/-- The worked example of section 1.7, order one and order three. -/
theorem test_openFrame_last_cells :
    let s : State :=
      { State.reset with
        pool := { State.reset.pool with free := 16, level := .below }
        ports :=
          { p0 := { PortState.reset with holdings := 180 }, p1 := { PortState.reset with holdings := 172 }
            p2 := { PortState.reset with holdings := 140 }, p3 := { PortState.reset with holdings := 4 } } }
    let t := tell (.openFrame .p0 250) s
    t.resultOn .p0 = some .ok ∧ t.pool.free = 12 ∧ (t.port .p0).holdings = 184 ∧ t.sharedFree = 0 ∧
      (tell (.openFrame .p1 200) t).resultOn .p1 = some .poolShort ∧
      (tell (.openFrame .p0 250) { s with pool := { s.pool with free := 15, inbound := 1 } }).resultOn .p0 =
        some .poolShort := by decide +kernel

theorem test_openFrame_checks :
    (tell (.openFrame .p0 0) State.reset).resultOn .p0 = some .badArg ∧
      (tell (.openFrame .p0 513) State.reset).resultOn .p0 = some .badArg ∧
      ((tell (.openFrame .p0 512) State.reset).port .p0).holdings = 8 ∧
      ((tell (.openFrame .p0 64) State.reset).port .p0).holdings = 1 ∧
      (tell (.openFrame .p0 0) slotted).resultOn .p0 = some .slotBusy ∧
      (tell (.openFrame .p0 1) (edit State.reset .p0 fun ps => { ps with holdings := 192 })).resultOn .p0 =
        some .overCeiling := by decide +kernel

theorem test_appendData :
    (tell (.appendData .p0) State.reset).resultOn .p0 = some .noFrame ∧
      (tell (.appendData .p0) slotted).resultOn .p0 = some .ok := by decide +kernel

theorem test_appendDataByte :
    let t := play [.openFrame .p0 1, .appendData .p0, .appendDataByte .p0 7] State.reset
    ((t.port .p0).slot.map (·.payload)) = some [7] ∧ t.resultOn .p0 = some .ok ∧
      (tell (.appendDataByte .p0 8) t).resultOn .p0 = some .overfill ∧
      ((tell (.appendDataByte .p0 8) t).port .p0).slot.map (·.payload) = some [7] := by decide +kernel

/-- The transaction of section 11.7.1: options 0x81 set notify. -/
theorem test_commitTrunk :
    let t := tell (.commitTrunk .p0 0x0412 1 7 0x81) (linked .seeking slotted)
    (t.port .p0).answer = [0x04, 0, 0, 0, 0, 0] ∧ t.resultOn .p0 = some .ok ∧ (t.port .p0).cpl.reserved = 1 ∧
      (t.port .p0).queue.map (fun f => (f.address, f.cls, f.tag, f.notify, f.state)) =
        [(some 0x0412, some 1, some 7, some true, .waiting)] ∧ (t.port .p0).slot = none := by decide +kernel

theorem test_commitTrunk_checks :
    let c : Instr := .commitTrunk .p0 0 3 0 1
    (tell c State.reset).resultOn .p0 = some .noFrame ∧ (tell c slotted).resultOn .p0 = some .linkOff ∧
      (tell (.commitTrunk .p0 0 4 0 1) slotted).resultOn .p0 = some .badArg ∧
      (tell c (edit slotted .p0 fun ps => { ps with slot := some { built with length := 3 } })).resultOn .p0 =
        some .notFull ∧
      (tell c { slotted with link := { Link.reset with state := .lost, flushed := true } }).resultOn .p0 =
        some .linkDown ∧
      (tell c (edit (linked .up slotted) .p0 fun ps => { ps with queue := List.replicate 16 built })).resultOn .p0 =
        some .queueFull ∧
      (tell c (edit (linked .up slotted) .p0 fun ps => { ps with cpl := { records := [], reserved := 16 } })).resultOn
        .p0 = some .noSlot := by decide +kernel

/-- R13, R35: the sender is a target with room and pays. -/
theorem test_commitLocal :
    let t := tell (.commitLocal .p0 0xF3 1 7 1) slotted
    t.resultOn .p0 = some .ok ∧ (t.port .p0).holdings = 1 ∧ (t.port .p0).slot = none ∧
      (t.port .p1).rx.records.map (fun r => (r.length, r.source, r.delivered)) = [(2, .fromPort .p0, 3)] ∧
      (t.port .p0).cpl.records = [{ tag := 7, outcome := .delivered, sets := some (3, 0) }] ∧
      t.flagged .p1 .rxReady := by decide +kernel

/-- R36: no target has room. -/
theorem test_commitLocal_noTarget :
    let r : RxRecord := { frame := 9, length := 1, source := .fromPort .p3, cls := 0, first := none, delivered := 2 }
    let s := edit slotted .p1 fun ps => { ps with rx := { ps.rx with records := List.replicate 32 r } }
    let t := tell (.commitLocal .p0 2 0 5 1) s
    (t.port .p0).cpl.records = [{ tag := 5, outcome := .noTarget, sets := some (0, 2) }] ∧
      (t.port .p0).holdings = 0 ∧ t.flagged .p1 .rxRefused ∧
      (t.port .p1).rx.lastRefusal = some { reason := .room, source := .fromPort .p0 } ∧
      (tell (.commitLocal .p0 0x10 0 5 1) s).resultOn .p0 = some .badArg := by decide +kernel

theorem test_discardFrame :
    ((tell (.discardFrame .p0) slotted).port .p0).slot = none ∧
      ((tell (.discardFrame .p0) slotted).port .p0).holdings = 0 ∧
      (tell (.discardFrame .p0) State.reset).resultOn .p0 = some .noFrame := by decide +kernel

theorem test_cancel :
    let t := tell (.cancel .p0 7) queued
    (t.port .p0).queue = [waiting 8 false] ∧ (t.port .p0).cpl.reserved = 0 ∧ (t.port .p0).holdings = 1 ∧
      (t.port .p0).cpl.records = [] ∧ (tell (.cancel .p0 1) windowed).resultOn .p0 = some .inFlight ∧
      (tell (.cancel .p0 9) windowed).resultOn .p0 = some .notFound := by decide +kernel

/-! ### The lists -/

theorem test_setMarks :
    (tell (.setMarks .p0 32 31) State.reset).resultOn .p0 = some .ok ∧
      (tell (.setMarks .p0 1 0) State.reset).resultOn .p0 = some .ok ∧
      (tell (.setMarks .p0 33 0) State.reset).resultOn .p0 = some .badArg ∧
      (tell (.setMarks .p0 0 0) State.reset).resultOn .p0 = some .badArg ∧
      (tell (.setMarks .p0 5 5) State.reset).resultOn .p0 = some .badArg := by decide +kernel

theorem test_peekRecord :
    ((tell (.peekRecord .p1) delivered).port .p1).answer.drop 2 = [0, 100, 0, 0, 5, 0, 3, 6] ∧
      ((tell (.peekRecord .p0) delivered).port .p0).answer.drop 2 = [0, 0, 0, 0, 0, 0, 0, 0] ∧
      (tell (.peekRecord .p0) delivered).resultOn .p0 = some .empty := by decide +kernel

/-- The example in R140: a record of length 100, offset 96, eight data-phase bytes. -/
theorem test_readFrame :
    let t := play (.readFrame .p1 96 :: List.replicate 8 (.readFrameByte .p1)) delivered
    (t.port .p1).answer.drop 3 = [96, 97, 98, 99, 0, 0, 0, 0] ∧ t.resultOn .p1 = some .short ∧
      (play [.readFrame .p1 99, .readFrameByte .p1] delivered).resultOn .p1 = some .ok := by decide +kernel

theorem test_readFrame_empty :
    let t := play [.readFrame .p0 0, .readFrameByte .p0] delivered
    (t.port .p0).answer.drop 3 = [0] ∧ t.resultOn .p0 = some .empty := by decide +kernel

/-- R14: the payer lets go first, then the last holder. -/
theorem test_releaseRecord :
    let t := tell (.releaseRecord .p1) delivered
    (t.port .p1).holdings = 0 ∧ (t.port .p2).holdings = 2 ∧ t.frames.map (fun x => (x.2.refs, x.2.payer)) =
        [(some 1, some .p2)] ∧
      (tell (.releaseRecord .p2) t).frames = [] ∧ ((tell (.releaseRecord .p2) t).port .p2).holdings = 0 ∧
      (tell (.releaseRecord .p0) delivered).resultOn .p0 = some .empty := by decide +kernel

/-- R141: RX_LOW when the count comes down to the low mark in ABOVE. -/
theorem test_releaseRecord_low :
    let s := edit delivered .p2 fun ps => { ps with rx := { ps.rx with low := 0, high := 1, markState := .above } }
    (tell (.releaseRecord .p2) s).flagged .p2 .rxLow ∧
      ((tell (.releaseRecord .p2) s).port .p2).rx.markState = .below := by decide +kernel

theorem test_takeCompletion :
    let c : CplRecord := { tag := 7, outcome := .delivered, sets := some (3, 4) }
    let s := edit State.reset .p0 fun ps => { ps with cpl := { records := [c], reserved := 2 } }
    ((tell (.takeCompletion .p0) s).port .p0).answer.drop 2 = [7, 4, 3, 4] ∧
      ((tell (.takeCompletion .p0) s).port .p0).cpl = { records := [], reserved := 2 } ∧
      (tell (.takeCompletion .p1) s).resultOn .p1 = some .empty := by decide +kernel

/-! ### The lease, the settings and the tables -/

theorem test_leaseAcquire :
    ((tell (.leaseAcquire .p1 0) State.reset).port .p1).answer.drop 2 = [1, 0] ∧
      (tell (.leaseAcquire .p1 0) held).resultOn .p1 = some .held ∧
      ((tell (.leaseAcquire .p1 0xFF) held).port .p1).answer.drop 2 = [0, 2] ∧
      ((tell (.leaseAcquire .p2 1) held).port .p2).answer.drop 2 = [0, 1] ∧
      (tell (.leaseAcquire .p2 0xFE) held).resultOn .p2 = some .held := by decide +kernel

theorem test_leaseRenew :
    (tell (.leaseRenew .p0) { held with params := { held.params with tLease := 77 } }).lease.timer = .running 77 ∧
      (tell (.leaseRenew .p2) held).resultOn .p2 = some .notHolder := by decide +kernel

theorem test_leaseRelease :
    let t := tell (.leaseRelease .p0) held
    t.lease = { holder := some .p2, timer := .running 1000, waiting := [] } ∧ t.flagged .p2 .leaseGranted ∧
      ¬t.flagged .p0 .leaseLost ∧ (tell (.leaseRelease .p2) held).resultOn .p2 = some .notHolder := by decide +kernel

theorem test_leaseWithdraw :
    (tell (.leaseWithdraw .p2) held).lease.waiting = [] ∧
      (tell (.leaseWithdraw .p0) held).resultOn .p0 = some .notFound := by decide +kernel

theorem test_leaseTimerExpiry :
    let t := tell .leaseTimerExpiry held
    t.lease.holder = some .p2 ∧ t.flagged .p0 .leaseLost ∧ t.flagged .p2 .leaseGranted ∧
      (tell .leaseTimerExpiry t).lease = { holder := none, timer := .stopped, waiting := [] } := by decide +kernel

theorem test_setQuota :
    let t := tell (.setQuota .p0 1 128 512) held
    (t.port .p1).floor = 128 ∧ (t.port .p1).ceiling = 512 ∧
      (tell (.setQuota .p0 4 0 0) held).resultOn .p0 = some .badArg ∧
      (tell (.setQuota .p0 1 129 512) held).resultOn .p0 = some .badArg ∧
      (tell (.setQuota .p0 1 10 9) held).resultOn .p0 = some .badArg ∧
      (tell (.setQuota .p0 2 97 512) t).resultOn .p0 = some .quotaSum ∧
      (tell (.setQuota .p0 2 96 512) t).resultOn .p0 = some .ok ∧
      (tell (.setQuota .p1 4 0 0) held).resultOn .p1 = some .notHolder := by decide +kernel

/-- R15: a raised floor can bring shared free below P14. -/
theorem test_setQuota_poolLow :
    let s := { held with pool := { held.pool with free := 100 } }
    (tell (.setQuota .p0 1 32 200) s).flagged .p3 .poolLow ∧
      ¬(tell (.setQuota .p0 1 20 200) s).flagged .p3 .poolLow := by decide +kernel

theorem test_setParameter :
    (tell (.setParameter .p0 5 7) held).params.w = 7 ∧
      (tell (.setParameter .p0 5 8) held).resultOn .p0 = some .badArg ∧
      (tell (.setParameter .p0 0 256) held).resultOn .p0 = some .badArg ∧
      (tell (.setParameter .p0 15 0) held).resultOn .p0 = some .badArg ∧
      (tell (.setParameter .p1 15 0) held).resultOn .p1 = some .notHolder := by decide +kernel

/-- R15 and R113. -/
theorem test_setParameter_thresholds :
    let s := { held with engine := { Engine.reset with haltingPeer := true }, pool := { held.pool with free := 90 } }
    (tell (.setParameter .p0 14 27) s).pool.level = .below ∧
      ¬(tell (.setParameter .p0 14 27) s).flagged .p0 .poolLow ∧
      (tell (.setParameter .p0 11 26) s).engine.flowOwed = .go ∧
      (tell (.setParameter .p0 11 27) s).engine.flowOwed = .none := by decide +kernel

theorem test_readParameter :
    ((tell (.readParameter .p1 13) State.reset).port .p1).answer = [0, 0, 0x03, 0xE8] ∧
      (tell (.readParameter .p1 15) State.reset).resultOn .p1 = some .badArg := by decide +kernel

theorem test_tableWrite :
    let t := tell (.tableWrite .p0 31 0x2000 0xFF00 0xF6 0xFF) held
    ((tell (.tableRead .p1 1 31) t).port .p1).answer = [0, 0, 0, 0xE1, 0x20, 0x00, 0xFF, 0x00, 6, 0, 0] ∧
      (tell (.tableWrite .p0 32 0 0 1 0) held).resultOn .p0 = some .badArg ∧
      (tell (.tableWrite .p0 0 0 0 0xF0 0) held).resultOn .p0 = some .badArg := by decide +kernel

theorem test_tableClear :
    let t := play [.tableWrite .p0 3 1 1 1 0, .tableCommit .p0, .tableClear .p0 3, .tableCommit .p0] held
    t.classifier.active[3]? = some { entry := .unused, hits := 0 } ∧
      (tell (.tableClear .p0 32) held).resultOn .p0 = some .badArg := by decide +kernel

theorem test_tableRead :
    ((tell (.tableRead .p3 0 0) State.reset).port .p3).answer = [0, 0, 0, 0, 0, 0, 0, 0, 0, 0, 0] ∧
      (tell (.tableRead .p3 0 32) State.reset).resultOn .p3 = some .badArg := by decide +kernel

theorem test_tableCommit :
    let t := play [.tableWrite .p0 3 1 1 1 0, .tableCommit .p0] held
    (t.classifier.active[3]?.map (·.entry.hosts)) = some 1 ∧ t.classifier.dirty = false ∧
      t.flagged .p3 .tableSwapped ∧ ¬(tell (.tableCommit .p0) held).flagged .p3 .tableSwapped := by decide +kernel

theorem test_tableRevert :
    (play [.tableWrite .p0 3 1 1 1 0, .tableRevert .p0] held).classifier = held.classifier := by decide +kernel

/-- The worked example of section 7.3. -/
theorem test_lookup :
    let e (a m : Word) (h : HostSet) (stop : Bool) (hits : Nat) : ActiveEntry :=
      { entry := { inUse := true, address := a, mask := m, hosts := h, stop := stop }, hits := hits }
    let no : ActiveEntry := { entry := .unused, hits := 0 }
    let l := [e 0x2000 0xFF00 6 false 40, no, e 0x2000 0xFF80 4 true 12, e 0x2040 0xFFFF 8 true 0, no,
      e 0 0 1 false 7]
    let look (a : Word) := let r := scanFrom a 0 l; (r.hosts, r.first, r.entries.map (·.hits))
    look 0x2041 = (6, some 0, [41, 0, 13, 0, 0, 7]) ∧ look 0x2040 = (6, some 0, [41, 0, 13, 0, 0, 7]) ∧
      look 0x20C0 = (7, some 0, [41, 0, 12, 0, 0, 8]) ∧ look 0x7000 = (1, some 5, [40, 0, 12, 0, 0, 8]) ∧
      look 0x2140 = (1, some 5, [40, 0, 12, 0, 0, 8]) := by decide +kernel

/-! ### The trunk and its link -/

theorem test_trunkOn :
    let t := tell (.trunkOn .p0) held
    t.link.state = .seeking ∧ t.link.helloDue = true ∧ t.link.flushTimer = .running 1000 ∧
      t.framer.rxState = .hunting ∧ t.framer.watch = .running ∧ t.flagged .p3 .linkChange ∧
      (tell (.trunkOn .p1) held).resultOn .p1 = some .notHolder := by decide +kernel

/-- R56: with T_flush at 0 the flush timer expires in the event that starts it. -/
theorem test_trunkOn_flushed :
    let t := tell (.trunkOn .p0) { held with params := { held.params with tFlush := 0 } }
    t.link.flushed = true ∧ t.link.flushTimer = .stopped := by decide +kernel

/-- R80 and R57: the window fails before the queue, both with LINK_OFF. -/
theorem test_trunkOff :
    let s := edit { windowed with lease := held.lease } .p0 fun ps =>
      { ps with queue := [waiting 9 true], holdings := 4, cpl := { records := [], reserved := 4 } }
    let t := tell (.trunkOff .p0) s
    t.link.state = .off ∧ t.framer.rxState = .ignoring ∧ (t.port .p0).holdings = 0 ∧ t.engine.window = [] ∧
      (t.port .p0).cpl.records.map (fun c => (c.tag, c.outcome)) =
        [(1, .linkOff), (2, .linkOff), (3, .linkOff), (9, .linkOff)] ∧
      (t.port .p0).queue = [] ∧ t.flagged .p0 .txDone := by decide +kernel

/-- Section 11.4. -/
theorem test_readLink :
    let s := { windowed with link := { windowed.link with lastCause := .retryLimit } }
    ((tell (.readLink .p3) s).port .p3).answer.drop 2 = [3, 5, 1, 9, 3, 0, 0, 0, 0] := by decide +kernel

/-- R77 and R85: four intervals without a valid frame lose the link. -/
theorem test_intervalTimerExpiry :
    let s (n : Nat) (heard : Bool) := { up with link := { up.link with lossCount := n, heard := heard } }
    (tell .intervalTimerExpiry (s 2 false)).link.lossCount = 3 ∧
      (tell .intervalTimerExpiry (s 2 true)).link.lossCount = 0 ∧
      (tell .intervalTimerExpiry (s 3 false)).link.state = .lost ∧
      (tell .intervalTimerExpiry (s 3 false)).link.lastCause = .helloTimeout := by decide +kernel

/-- R83: CONFIRMING goes back to SEEKING without passing through LOST. -/
theorem test_intervalTimerExpiry_confirming :
    let t := tell .intervalTimerExpiry
      { (linked .confirming up) with link := { up.link with state := .confirming, lossCount := 3 } }
    t.link.state = .seeking ∧ t.link.lastCause = .none ∧ t.link.intervalTimer = .stopped := by decide +kernel

theorem test_helloTimerExpiry :
    let t := tell .helloTimerExpiry up
    t.link.helloDue = true ∧ t.link.helloTimer = .stopped ∧
      (tell .helloTimerExpiry (linked .seeking up)).link.helloTimer = .running 10 ∧
      tell .helloTimerExpiry State.reset = State.reset := by decide +kernel

/-- R78. -/
theorem test_holdOffTimerExpiry :
    let t := tell .holdOffTimerExpiry
      { State.reset with link := { Link.reset with state := .lost, holdOffTimer := .running 50 } }
    t.link.state = .seeking ∧ t.link.holdOffTimer = .stopped ∧ t.link.helloDue = true := by decide +kernel

/-- R53. -/
theorem test_flushTimerExpiry :
    let t := tell .flushTimerExpiry
      { queued with link := { queued.link with state := .lost, flushTimer := .running 1000 } }
    (t.port .p0).queue = [] ∧ t.link.flushed = true ∧ (t.port .p0).holdings = 0 ∧
      (t.port .p0).cpl = { records := [{ tag := 7, outcome := .linkDown, sets := none }], reserved := 0 } := by
  decide +kernel

/-- Step 2 of section 3.6 with one frame: the window goes back ahead of the queue. -/
theorem test_haltTimerExpiry :
    let s := edit { windowed with engine := { windowed.engine with haltTimer := .running 2000 } } .p0 fun ps =>
      { ps with queue := [waiting 9 false] }
    let t := tell .haltTimerExpiry s
    (t.port .p0).queue.map (·.tag) = [some 1, some 2, some 3, some 9] ∧ t.link.state = .lost ∧
      t.link.lastCause = .haltTimeout ∧ t.link.flushTimer = .running 1000 ∧ t.link.holdOffTimer = .running 50 := by
  decide +kernel

/-- R104 and R105. -/
theorem test_ackTimerExpiry :
    let t := tell .ackTimerExpiry windowed
    t.engine.round = some { origin := 3, next := 3 } ∧ t.engine.window.map (·.retry) = [1, 0, 0] ∧
      (tell .ackTimerExpiry { windowed with params := { windowed.params with nRetry := 0 } }).link.lastCause =
        .retryLimit := by decide +kernel

theorem test_ackDelayTimerExpiry :
    (tell .ackDelayTimerExpiry
        { up with engine := { Engine.reset with ackOwed := true, ackDelay := .running 2 } }).engine.ackDelay =
      .expired := by decide +kernel

/-! ### The receive line -/

/-- A frame in reception that has passed the framer's tests. -/
def arrived (header : List Byte) (count : Nat) (s : State) : State :=
  { s with framer := { s.framer with rxState := .receiving, header := header, count := count, crc := 0x1D0F#16 } }

/-- An admitted DATA frame in reception: class 2, sequence number 3, acknowledgement 6, address 0x2041, 300 octets in
5 cells. -/
def storing (s : State) : State :=
  let t := arrived [0x12, 0x36, 0x20, 0x41] 306 s
  { t with
    pool := { t.pool with inbound := 5, inboundCells := [90, 91, 92, 93, 94] }
    framer := { t.framer with admission := .admitted, hold := [0, 0], stored := List.replicate 300 0x55 }
    engine := { t.engine with vr := 3 } }

/-- The table of the worked example in section 7.3, entry 0. -/
def tabled (s : State) : State :=
  { s with
    classifier :=
      { s.classifier with
        active :=
          { entry := { inUse := true, address := 0x2000, mask := 0xFF00, hosts := 6, stop := false }, hits := 40 } ::
            s.classifier.active.drop 1 } }

theorem test_rxMarkerFound :
    let s := { up with framer := { up.framer with rxState := .hunting } }
    (tell .rxMarkerFound s).framer.rxState = .between ∧ tell .rxMarkerFound up = up := by decide +kernel

/-- The worked example of section 4.8, up to K0, with the framing of section 4.6. -/
theorem test_rxFrameOctet :
    let s := { up with engine := { Engine.reset with vr := 3 } }
    let t := play ([0x12, 0x37, 0xA8, 0xE9, 0xA8, 0xE8, 0x41, 0xA8, 0xE9, 0x00].map Instr.rxFrameOctet) s
    t.framer.count = 7 ∧ t.framer.hold = [0xA9, 0x00] ∧ t.framer.stored = [0x41] ∧ t.pool.inbound = 1 ∧
      t.framer.admission = .admitted ∧ t.framer.addressField = 0xA9A8 ∧ t.framer.escPending = false := by
  decide +kernel

/-- R61: an escape followed by neither 0xE9 nor 0xE8. -/
theorem test_rxFrameOctet_badEscape :
    let s := { up with framer := { up.framer with rxState := .receiving, escPending := true } }
    (tell (.rxFrameOctet 0x41) s).framer.badEscape = true ∧ (tell (.rxFrameOctet 0xE8) s).framer.badEscape = false ∧
      (tell (.rxFrameOctet 0xA9) s).framer.invalidCount = 1 := by decide +kernel

/-- Step 1 of the worked example in section 7.9: P1 cannot pay, P2 does. -/
theorem test_dataFrameReceived :
    let s := edit (edit (storing (tabled windowed)) .p1 fun ps => { ps with holdings := 190 }) .p2 fun ps =>
      { ps with holdings := 20 }
    let t := tell .dataFrameReceived s
    t.engine.vr = 4 ∧ t.engine.ackOwed = true ∧ t.pool.inbound = 0 ∧ (t.port .p1).holdings = 190 ∧
      (t.port .p2).holdings = 25 ∧ t.engine.window = [] ∧ t.frames.map (fun x => (x.2.refs, x.2.payer)) =
        [(some 2, some .p2)] ∧ t.frames.map (·.2.cells) = [[90, 91, 92, 93, 94]] ∧ t.pool.inboundCells = [] ∧
      (t.port .p1).rx.records.map (fun r => (r.source, r.first, r.delivered, r.cls)) =
        [(.fromTrunk 0x2041, some 0, 6, 2)] := by decide +kernel

/-- R98: behind V(R) an acknowledgement is owed, ahead of it a REJECT; outside UP nothing. -/
theorem test_dataFrameReceived_notStored :
    let s (seq : BitVec 4) := arrived [0x10, seq ++ 0x6#4, 0, 0] 7 windowed
    (tell .dataFrameReceived (s 9)).engine.ackOwed = true ∧ (tell .dataFrameReceived (s 8)).engine.rejectOwed = true ∧
      (tell .dataFrameReceived (s 8)).engine.ackOwed = false ∧
      (tell .dataFrameReceived (linked .seeking (s 8))).engine.rejectOwed = false := by decide +kernel

/-- The example in R95: 3 to 6 are acceptable, 2 and 7 are not. -/
theorem test_ackFrameReceived :
    let s (n : BitVec 4) := arrived [0x20, 0x0#4 ++ n] 4 windowed
    let t := tell .ackFrameReceived (s 5)
    t.engine.window = [entry 5 3] ∧ (t.port .p0).cpl.records.map (·.tag) = [1, 2] ∧ (t.port .p0).holdings = 1 ∧
      (tell .ackFrameReceived (s 3)).engine.window.length = 3 ∧
      (tell .ackFrameReceived (s 6)).engine.ackTimer = .stopped ∧
      (tell .ackFrameReceived (s 2)).framer.invalidCount = 1 ∧
      (tell .ackFrameReceived (s 7)).framer.invalidCount = 1 := by decide +kernel

/-- R4, R94: the entry on the line keeps its cells until its transmission ends. -/
theorem test_ackFrameReceived_onLine :
    let s :=
      { arrived [0x20, 0x06] 4 windowed with
        engine := { windowed.engine with window := [entry 3 1, entry 4 2, { entry 5 3 with onLine := true }] } }
    let s1 := { s with framer := { s.framer with tx := .sending { kind := .data, octets := [], held := none } } }
    let t := tell .ackFrameReceived s1
    (t.port .p0).holdings = 1 ∧ t.engine.window = [] ∧ (t.pool.freeCells.drop 512) = [1, 2] ∧
      ((tell .transmissionEnd t).port .p0).holdings = 0 ∧
      ((tell .transmissionEnd t).pool.freeCells.drop 512) = [1, 2, 3] := by decide +kernel

/-- Step 1 of the worked example in section 6.10. -/
theorem test_rejectFrameReceived :
    let t := tell .rejectFrameReceived (arrived [0x30, 0x04] 4 windowed)
    t.engine.window.map (fun e => (e.seq, e.retry)) = [(4, 1), (5, 0)] ∧
      t.engine.round = some { origin := 4, next := 4 } ∧
      (tell .rejectFrameReceived (arrived [0x30, 0x06] 4 windowed)).engine.round = none := by decide +kernel

theorem test_haltFrameReceived :
    let t := tell .haltFrameReceived (arrived [0x40, 0x04] 4 windowed)
    t.engine.peerHalted = true ∧ t.engine.haltTimer = .running 2000 ∧ t.engine.ackTimer = .stopped ∧
      t.engine.window.length = 2 := by decide +kernel

theorem test_goFrameReceived :
    let s := { windowed with engine := { windowed.engine with peerHalted := true, haltTimer := .running 5 } }
    let t := tell .goFrameReceived (arrived [0x50, 0x04] 4 s)
    t.engine.peerHalted = false ∧ t.engine.haltTimer = .stopped ∧ t.engine.round = some { origin := 4, next := 4 } ∧
      t.engine.window.map (·.retry) = [0, 0] := by decide +kernel

/-- The bring-up of section 5.13: A at 26, 28, 32 and 58. -/
theorem test_helloFrameReceived :
    let s (l : LinkState) (n : Nat) (seen : Byte) :=
      arrived [seen, 0, 9] 5 { up with link := { up.link with state := l, confCount := n } }
    let t (l : LinkState) (n : Nat) (seen : Byte) := (tell .helloFrameReceived (s l n seen)).link
    (t .seeking 0 0x60).state = .confirming ∧ (t .confirming 0 0x61).confCount = 1 ∧
      (t .confirming 1 0x60).confCount = 0 ∧ (t .confirming 2 0x61).state = .up ∧ (t .up 3 0x61).heard = true ∧
      (t .up 3 0x60).lastCause = .peerRestart := by decide +kernel

/-- R81, R82, R85: the own station. -/
theorem test_helloFrameReceived_looped :
    let s (l : LinkState) := arrived [0x61, 0, 0] 5 (linked l up)
    (tell .helloFrameReceived (s .seeking)).link.lastCause = .looped ∧
      (tell .helloFrameReceived (s .confirming)).link.state = .lost ∧
      (tell .helloFrameReceived (s .up)).link.lastCause = .looped ∧
      (tell .helloFrameReceived (s .lost)).link.lastCause = .none := by decide +kernel

theorem test_unknownTypeFrameEnd :
    (tell .unknownTypeFrameEnd (arrived [0x70, 0x00] 4 up)).framer.invalidCount = 1 ∧
      (tell .unknownTypeFrameEnd (arrived [0x20, 0x00] 4 up)) = arrived [0x20, 0x00] 4 up := by decide +kernel

theorem test_silentLine :
    let t := tell .silentLine (storing windowed)
    t.link.state = .lost ∧ t.link.lastCause = .silent ∧ t.framer.watch = .reported ∧ t.framer.rxState = .hunting ∧
      t.pool.inbound = 0 ∧ t.framer.invalidCount = 0 ∧ tell .silentLine t = t ∧
      (tell .silentLine (linked .confirming up)).link.state = .seeking := by decide +kernel

/-- R89, last row: the silent line and the HELLO together in SEEKING, in either order. -/
theorem test_silentLine_with_hello :
    let s := arrived [0x60, 0, 9] 5 (linked .seeking up)
    (play [.silentLine, .helloFrameReceived] s).link.state = .confirming ∧
      (play [.helloFrameReceived, .silentLine] s).link.state = .seeking ∧
      (play [.silentLine, .rckClockReturn, .helloFrameReceived] s).link.state = .seeking := by decide +kernel

/-- R89, third row, the expiry first: the frame is discarded in LOST, uncounted, and its marker ends DISCARDING. -/
theorem test_intervalExpiry_with_frame :
    let s := storing { windowed with link := { windowed.link with lossCount := 3, heard := false } }
    let t := play [.intervalTimerExpiry, .dataFrameReceived] s
    (tell .intervalTimerExpiry s).framer.rxState = .discarding ∧ t.link.state = .lost ∧
      t.link.lastCause = .helloTimeout ∧ t.framer.rxState = .between ∧ t.framer.invalidCount = 0 ∧ t.frames = [] ∧
      t.engine.vr = 3 := by decide +kernel

theorem test_rckClockReturn :
    (tell .rckClockReturn { up with framer := { up.framer with watch := .reported } }).framer.watch = .running ∧
      tell .rckClockReturn up = up := by decide +kernel

/-! ### The transmit line -/

/-- The state before arbitration 4 of section 3.3. -/
def fourth : State :=
  let q (s : State) (p : Port) (c : Fin 4) (deferred : Bool) : State :=
    edit s p fun ps => { ps with queue := [{ waiting 0 false with cls := some c }], deferred := deferred }
  { q (q (q up .p0 1 false) .p1 3 false) .p3 1 false with
    pointer := .p2, params := { Params.reset with w := 7 }
    engine := { Engine.reset with window := [entry 0 0, entry 1 0, entry 2 0], vs := 3 } }

/-- Arbitration 4 of section 3.3: P3 wins the tie, and P0's frame of class 1 goes next. -/
theorem test_arbitration :
    let t := tell .arbitration fourth
    t.pointer = .p3 ∧ (t.port .p3).deferred = true ∧ (t.port .p3).queue = [] ∧ t.engine.vs = 4 ∧
      t.engine.window.map (·.seq) = [0, 1, 2, 3] ∧
      (tell .arbitration (tell .transmissionEnd t)).pointer = .p0 := by decide +kernel

/-- The DATA frame of section 4.6 before escaping, and R45's bound on the window. -/
theorem test_arbitration_frame :
    let s : State :=
      { queued with engine := { Engine.reset with window := [entry 2 0], vs := 3, vr := 7 } }
    let t := tell .arbitration s
    (match t.framer.tx with
      | .sending x => x.octets.take 6
      | .idle => []) = [0x12, 0x37, 0xA9, 0xA8, 0x41, 0xA9] ∧
      tell .arbitration { s with params := { s.params with w := 1 } } =
        { s with params := { s.params with w := 1 } } := by decide +kernel

/-- Section 4.6: the octets made transparent. -/
theorem test_transparency :
    lineOctets [0x12, 0x37, 0xA9, 0xA8, 0x41, 0xA9] = [0x12, 0x37, 0xA8, 0xE9, 0xA8, 0xE8, 0x41, 0xA8, 0xE9] := by
  decide +kernel

/-- Steps 2 and 5 of section 6.10: the next position moves on, and the last entry ends the round. -/
theorem test_roundDataSend :
    let s (n : Seq) := { windowed with engine := { windowed.engine with round := some { origin := 3, next := n } } }
    let t := tell .roundDataSend (s 3)
    t.engine.round = some { origin := 3, next := 4 } ∧ t.engine.retransCount = 1 ∧
      t.engine.window.map (·.onLine) = [true, false, false] ∧ (tell .roundDataSend (s 5)).engine.round = none ∧
      ((tell .roundDataSend (s 2)).engine.window.map (·.onLine)) = [true, false, false] := by decide +kernel

/-- R101: flow frames before REJECT before data before ACK before HELLO. -/
theorem test_short_frames :
    let s : State :=
      { up with
        link := { up.link with helloDue := true }
        engine :=
          { Engine.reset with flowOwed := .halt, rejectOwed := true, ackOwed := true, ackDelay := .expired, vr := 5 } }
    let octets (t : State) := match t.framer.tx with
      | .sending x => x.octets.take 2
      | .idle => []
    let low := { s with engine := { s.engine with flowOwed := .none, rejectOwed := false } }
    octets (tell .haltSend s) = [0x40, 0x05] ∧ octets (tell .rejectSend s) = [] ∧ octets (tell .goSend s) = [] ∧
      octets (tell .rejectSend { s with engine := { s.engine with flowOwed := .none } }) = [0x30, 0x05] ∧
      octets (tell .goSend { s with engine := { s.engine with flowOwed := .go } }) = [0x50, 0x05] ∧
      octets (tell .ackSend s) = [] ∧ octets (tell .ackSend low) = [0x20, 0x05] ∧ octets (tell .helloSend low) = [] ∧
      (tell .haltSend s).engine.ackOwed = false := by decide +kernel

theorem test_helloSend :
    let s (l : LinkState) : State :=
      { up with link := { up.link with state := l, helloDue := true }, params := { Params.reset with station := 5 } }
    let octets (t : State) := match t.framer.tx with
      | .sending x => x.octets.take 3
      | .idle => []
    octets (tell .helloSend (s .seeking)) = [0x60, 0, 5] ∧ octets (tell .helloSend (s .up)) = [0x61, 0, 5] ∧
      octets (tell .helloSend (s .lost)) = [] ∧ (tell .helloSend (s .up)).link.helloTimer = .stopped ∧
      (tell .helloSend (s .seeking)).link.helloTimer = .running 10 := by decide +kernel

theorem test_transmissionEnd :
    let s := tell .arbitration queued
    let t := tell .transmissionEnd s
    s.engine.window.map (·.onLine) = [true] ∧ t.engine.window.map (·.onLine) = [false] ∧ t.framer.tx = .idle ∧
      t.framer.closing = [0xA9] ∧ s.link.helloTimer = .stopped ∧ t.link.helloTimer = .running 10 := by decide +kernel

/-! ### States and operands that meet the hypotheses of the statements

One theorem for each statement that has hypotheses, clause by clause, at boundary values where a clause has a range. -/

theorem witness_StepRunsFrontCommand :
    ({ up with pending := [.nop .p0, .arbitration] } : State).pending = .nop .p0 :: [.arbitration] ∧
      up.pending = [] := by decide +kernel

theorem witness_TransactionsAndReset :
    let asserted : State := { up with resetAsserted := true }
    (asserted.resetAsserted = true ∧ (Instr.nop .p3).port? = some .p3 ∧ (hostBytes (.nop .p3)).isSome) ∧
      (asserted.port .p3).txn = .closed ∧
      (asserted.resetAsserted = true ∧ Instr.arbitration.port? = none ∧ Instr.arbitration ≠ .deviceReset ∧
        Instr.arbitration ≠ .resetRelease) ∧
      (let s := edit up .p0 fun ps => { ps with txn := .ignored }
      s.resetAsserted = false ∧ (Instr.trunkOff .p0).port? = some .p0 ∧ (hostBytes (.trunkOff .p0)).isSome ∧
        (s.port .p0).txn = .ignored) ∧
      (let s := edit up .p0 fun ps => { ps with txn := .opened .badArg .none }
      s.resetAsserted = false ∧ (s.port .p0).txn = .opened .badArg .none) := by decide +kernel

theorem witness_BytesOutOfThePort :
    let begun (got : List Byte) : State := edit up .p0 fun ps => { ps with txn := .selected got, reply := [0, 0] }
    slotted.resetAsserted = false ∧
      ((Instr.commitTrunk .p0 0 0 0 0).port? = some .p0 ∧ commandByte (.commitTrunk .p0 0 0 0 0) = some 0x12#8 ∧
        commandArgs 0x12#8 = some 5 ∧ (slotted.port .p0).txn = .closed) ∧
      ((Instr.readStatus .p3).port? = some .p3 ∧ commandByte (.readStatus .p3) = some 0x01#8 ∧
        commandArgs 0x01#8 = some 0 ∧ (slotted.port .p3).txn = .closed) ∧
      (hostBytes (.openFrame .p0 300) = some ([0x10, 0x01] ++ [0x2C]) ∧ hostBytes (.nop .p0) = some ([] ++ [0x00]) ∧
        ((begun [0x10, 0x01]).port .p0).txn = .selected [0x10, 0x01] ∧ (begun []).resetAsserted = false) ∧
      (hostBytes (.openFrame .p0 300) = some ([0x10] ++ 0x01 :: [0x2C]) ∧ ([0x2C] : List Byte) ≠ []) ∧
      ((edit up .p0 fun ps => { ps with txn := .opened .ok .none }).port .p0).txn = .opened .ok .none := by
  decide +kernel

theorem witness_EndOfTransaction :
    (up.resetAsserted = false ∧ (up.port .p0).txn = .closed) ∧
      ((edit up .p0 fun ps => { ps with txn := .opened .short .none }).port .p0).txn = .opened .short .none ∧
      ((edit up .p0 fun ps => { ps with txn := .ignored }).port .p0).txn = .ignored ∧
      ((edit up .p0 fun ps => { ps with txn := .selected [] }).port .p0).txn = .selected [] ∧
      ((edit up .p0 fun ps => { ps with txn := .selected [0x43, 1] }).port .p0).txn = .selected (0x43 :: [1]) ∧
      commandArgs 0x08#8 = none := by
  decide +kernel

/-- A port is ready with its chip select high, and with bytes of a command that are not all there yet. -/
theorem witness_Ready :
    up.Ready .p0 ∧ (edit up .p0 fun ps => { ps with txn := .selected [0x43, 1] }).Ready .p0 := by decide +kernel

/-- The state after a TABLE WRITE, with its tables sound. -/
def edited : State := edit (tell (.tableWrite .p0 31 0 0 1 0) held) .p0 fun ps => { ps with txn := .closed }

theorem edited_tableLaw : edited.TableLaw := by
  unfold State.TableLaw TableEntry.Sound; decide +kernel

theorem witness_ReadingCommands :
    (delivered.Ready .p1 ∧ (delivered.port .p1).rx.records ≠ [] ∧ (delivered.port .p0).rx.records = [] ∧
      delivered.Ready .p0) ∧
      (14#8).toNat ≤ 14 ∧ 14 < (15#8).toNat ∧
      (edited.Ready .p0 ∧ (0#8).getLsbD 0 = false ∧
        edited.classifier.active[(31#8).toNat]? = some { entry := .unused, hits := 0 }) ∧
      ((1#8).getLsbD 0 = true ∧ (edited.classifier.shadow[(31#8).toNat]?.map (·.written)) = some true) ∧
      31 < (32#8).toNat := by decide +kernel

theorem witness_EventCommands :
    held.Ready .p0 ∧
      ({ flags := 0x600, mask := 0x400, irq := true } : EventUnit).shows .unclaimed ∧
      ¬({ flags := 0x600, mask := 0x400, irq := true } : EventUnit).shows .rxLow := by decide +kernel

/-- The window of the example in R95 with its accounts in order. -/
def ledger : State :=
  { windowed with
    pool :=
      { free := 509, inbound := 0, level := .atOrAbove, freeCells := 0 :: List.range' 4 508, inboundCells := [] } }

theorem parameterLaw_of_reset {s : State} (h : s.params = Params.reset) : s.ParameterLaw := by
  intro n lo hi v h1 h2
  rw [h] at h2
  unfold paramRange at h1
  split at h1 <;> cases h1 <;> simp [Params.value?, Params.reset] at h2 <;> omega

theorem ledger_parameterLaw : ledger.ParameterLaw := parameterLaw_of_reset rfl

theorem ledger_levelLaw : ledger.LevelLaw := by unfold State.LevelLaw; decide +kernel

theorem ledger_windowLaw : ledger.WindowLaw :=
  ⟨by decide +kernel, ⟨rfl, rfl, rfl, rfl⟩, fun h => absurd rfl h⟩

theorem ledger_receptionLaw : ledger.ReceptionLaw :=
  ⟨fun h => absurd rfl h, fun h => absurd h (by decide +kernel), fun h => absurd h (by decide +kernel)⟩

theorem ledger_referenceLaw : ledger.ReferenceLaw := by
  refine ⟨List.nodup_nil, fun x h => absurd h List.not_mem_nil, fun p n => ?_, fun p r h => ?_⟩
  · cases p <;> exact Nat.zero_le 1
  · cases p <;> exact absurd h List.not_mem_nil

theorem ledger_cellLaw : ledger.CellLaw := by
  refine ⟨by decide +kernel, rfl, fun p => ?_, ?_⟩
  · cases p <;> decide +kernel
  · have held : (Port.all.flatMap ledger.paidFrames).flatMap Frame.cells = [1, 2, 3] := by decide +kernel
    have all : (0 :: ([1, 2, 3] ++ List.range' 4 508)) = List.range Config.poolCells := by decide +kernel
    rw [held, ← all]
    have moved : (List.range' 4 508 ++ [1, 2, 3]).Perm ([1, 2, 3] ++ List.range' 4 508) := List.perm_append_comm
    exact .cons 0 (by simpa [ledger] using moved)

theorem ledger_accountLaws : ledger.AccountLaws := by
  refine ⟨by unfold State.PoolLaw; decide +kernel, ⟨fun p => ?_, by decide +kernel⟩, ledger_cellLaw, ledger_referenceLaw,
    fun p => ?_, ⟨by decide +kernel, fun h => absurd h (by decide +kernel)⟩, ledger_receptionLaw, ledger_windowLaw,
    ledger_parameterLaw⟩
  · cases p <;> decide +kernel
  · cases p <;> decide +kernel

theorem witness_PortReset : ledger.Ready .p0 ∧ ledger.AccountLaws ∧ Port.p1 ≠ .p0 :=
  ⟨by decide +kernel, ledger_accountLaws, by decide⟩

theorem witness_OpenFrame : State.reset.Ready .p0 ∧ slotted.Ready .p0 ∧ 512 ≤ State.reset.pool.freeCells.length := by
  decide +kernel

/-- A transaction of APPEND DATA on P0, its result so far r. -/
def appending (r : Result) : State := edit slotted .p0 fun ps => { ps with txn := .opened r .append }

theorem witness_AppendData :
    slotted.Ready .p0 ∧
      ((appending .noFrame).resetAsserted = false ∧ ((appending .noFrame).port .p0).txn = .opened .noFrame .append) ∧
      (edit up .p0 fun ps => { ps with txn := .opened .ok .append }).resetAsserted = false ∧ (up.port .p0).slot = none ∧
      (appending .ok).resetAsserted = false ∧ ((appending .ok).port .p0).txn = .opened .ok .append ∧
      Result.ok ≠ .noFrame ∧ ((appending .ok).port .p0).slot = some built := by decide +kernel

theorem witness_CommitTrunk :
    (up.Ready .p0 ∧ (up.port .p0).slot = none) ∧ slotted.Ready .p0 ∧ (slotted.port .p0).slot = some built := by
  decide +kernel

theorem witness_CommitLocal :
    (up.Ready .p0 ∧ (up.port .p0).slot = none) ∧ slotted.Ready .p0 ∧ (slotted.port .p0).slot = some built := by
  decide +kernel

theorem witness_DiscardAndCancel :
    (queued.Ready .p0 ∧ (queued.port .p0).slot = none) ∧
      (slotted.Ready .p0 ∧ (slotted.port .p0).slot = some built) ∧
      ((queued.port .p0).queue.find? (·.tag == some 7) = some (waiting 7 true)) ∧
      (queued.port .p0).queue.find? (·.tag == some 9) = none := by decide +kernel

theorem witness_ReadFrame :
    (delivered.Ready .p0 ∧ (delivered.port .p0).rx.records = []) ∧
      (delivered.Ready .p1 ∧ (delivered.port .p1).rx.records.length = 1 ∧ (delivered.frame? 1).isSome) ∧
      (let s := edit up .p0 fun ps => { ps with txn := .opened .ok (.read (some [5]) 0) }
      s.resetAsserted = false ∧ (s.port .p0).txn = .opened .ok (.read (some [5]) 0)) ∧
      (let s := edit up .p0 fun ps => { ps with txn := .opened .empty (.read none 0) }
      s.resetAsserted = false ∧ (s.port .p0).txn = .opened .empty (.read none 0)) := by decide +kernel

theorem witness_MarksAndCompletions :
    (up.Ready .p0 ∧ (up.port .p0).cpl.records = []) ∧
      (let c : CplRecord := { tag := 1, outcome := .acked, sets := none }
      let s := edit up .p0 fun ps => { ps with cpl := { records := [c], reserved := 0 } }
      s.Ready .p0 ∧ (s.port .p0).cpl.records = c :: []) := by decide +kernel

/-- The payer P1 lets go while P2 holds a record (left 1), and P2 lets go last (left 0). -/
theorem witness_ReleaseRecord :
    (delivered.Ready .p0 ∧ (delivered.port .p0).rx.records = []) ∧
      (delivered.Ready .p1 ∧ (delivered.port .p1).rx.records.map (·.frame) = [1] ∧
        ((delivered.frame? 1).map fun f => (f.refs, f.payer)) = some (some (1 + 1), some .p1) ∧
        Port.all.find? (fun q =>
          (if q = .p1 then [] else (delivered.port q).rx.records).any (·.frame == 1)) = some .p2) ∧
      (let s : State := { delivered with frames := delivered.frames.map fun x => (x.1, { x.2 with refs := some 1 }) }
      s.Ready .p1 ∧ (s.port .p1).rx.records.map (·.frame) = [1] ∧
        ((s.frame? 1).map fun f => (f.refs, f.payer)) = some (some (0 + 1), some .p1)) := by decide +kernel

theorem witness_LeaseRequests :
    (up.Ready .p0 ∧ up.lease.holder = none) ∧ held.Ready .p1 ∧ held.lease.holder = some .p0 := by decide +kernel

theorem witness_EndOfHolding :
    (held.Ready .p0 ∧ held.lease.holder = some .p0) ∧ (held.Ready .p2 ∧ held.lease.holder ≠ some .p2) ∧
      held.resetAsserted = false ∧ held.lease.timer = .running 1000 := by decide +kernel

theorem witness_SetQuota :
    (held.Ready .p1 ∧ held.lease.holder ≠ some .p1) ∧ held.Ready .p0 ∧ held.lease.holder = some .p0 ∧
      3 < (4#8).toNat ∧ (3#8).toNat = Port.p3.toNat ∧
      (0#8).toNat = Port.p0.toNat := by decide +kernel

theorem witness_SetParameter :
    let ranges : List (Nat × Nat) :=
      [(0, 255), (1, 100), (1, 7), (2, 15), (10, 1000), (1, 7), (2, 500), (1, 15), (0, 50), (10, 10000), (0, 10000),
        (9, 256), (0, 15), (10, 10000), (0, 256)]
    (held.Ready .p1 ∧ held.lease.holder ≠ some .p1) ∧ held.Ready .p0 ∧ held.lease.holder = some .p0 ∧
      14 < (15#8).toNat ∧ (ranges[(3#8).toNat]? = some (2, 15) ∧ (1#16).toNat < 2 ∧ 15 < (16#16).toNat) ∧
      2 ≤ (2#16).toNat ∧ (15#16).toNat ≤ 15 ∧ ranges[(14#8).toNat]? = some (0, 256) ∧ (256#16).toNat ≤ 256 := by decide +kernel

theorem witness_NotHolder :
    (Instr.trunkOff .p2).isManagement = true ∧ (Instr.trunkOff .p2).port? = some .p2 ∧
      commandByte (.trunkOff .p2) = some 0x49#8 ∧ commandArgs 0x49#8 = some 0 ∧ held.Ready .p2 ∧
      held.lease.holder ≠ some .p2 := by decide +kernel

theorem witness_TableCommands :
    edited.Ready .p0 ∧ edited.lease.holder = some .p0 ∧ edited.Ready .p3 := by decide +kernel

theorem witness_PayerChoice :
    (slotted.roomSet 6).has .p1 = true ∧ (slotted.roomSet 6).has .p0 = false ∧
      slotted.choosePayer 1 (slotted.roomSet 6) none = some .p1 := by decide +kernel

/-- P1 gets a record and P2 is refused for want of room; P1 sits one below its high mark. -/
theorem witness_Delivery :
    let r : RxRecord := { frame := 9, length := 1, source := .fromPort .p3, cls := 0, first := none, delivered := 2 }
    let fill (s : State) (p : Port) (n : Nat) : State :=
      edit s p fun ps => { ps with rx := { ps.rx with records := List.replicate n r } }
    let s := fill (fill slotted .p1 23) .p2 32
    (s.roomSet 6).has .p1 = true ∧ s.choosePayer 1 (s.roomSet 6) (some .p0) = some .p1 ∧
      (s.port .p1).rx.markState = .below ∧ (s.port .p1).rx.high ≤ (s.port .p1).rx.records.length + 1 ∧
      HostSet.has 6 .p2 = true ∧ (s.roomSet 6).has .p2 = false := by decide +kernel

theorem witness_Lookup :
    let s := tabled up
    let d : State := { s with params := { s.params with defaultHosts := 1 } }
    (s.classifier.active[0]?.map fun a => (a.entry.inUse, (0x2041 : Word) &&& a.entry.mask, a.hits)) =
        some (true, 0x2000 &&& 0xFF00, 40) ∧
      s.classifier.active[31]? = some { entry := .unused, hits := 0 } ∧
      (scanFrom 0x2041 0 s.classifier.active).hosts ≠ 0#4 ∧
      (scanFrom 0x3041 0 s.classifier.active).hosts = 0#4 ∧ BitVec.ofNat 4 s.params.defaultHosts = 0#4 ∧
      (scanFrom 0x3041 0 d.classifier.active).hosts = 0#4 ∧ BitVec.ofNat 4 d.params.defaultHosts ≠ 0#4 := by
  decide +kernel

theorem witness_TrunkOn :
    (held.Ready .p0 ∧ held.lease.holder = some .p0 ∧ (linked .lost held).link.state ≠ .off) ∧
      (held.link.state = .off ∧ held.link.flushTimer = .stopped) ∧ ∀ q, (held.port q).queue = [] :=
  ⟨by decide +kernel, by decide +kernel, fun q => by cases q <;> rfl⟩

/-- A frame of P0 in the window, with a transmission in progress. -/
def sending : State :=
  { ledger with
    lease := held.lease
    framer := { ledger.framer with tx := .sending { kind := .data, octets := [0x10], held := none } } }

theorem witness_TrunkOff :
    (held.Ready .p0 ∧ held.lease.holder = some .p0 ∧ held.link.state = .off) ∧ sending.Ready .p0 ∧
      sending.lease.holder = some .p0 ∧ sending.link.state ≠ .off ∧ sending.framer.tx ≠ .idle ∧
      (reportedFrames sending.engine.window .p0).any Frame.notifies = true := by decide +kernel

theorem witness_TrunkOff_level : sending.LevelLaw ∧ (linked .lost queued).LevelLaw := by
  unfold State.LevelLaw; decide +kernel

theorem witness_LeavingUp :
    ledger.framer.tx = .idle ∧ sending.framer.tx ≠ .idle ∧ sending.link.flushTimer = .stopped ∧
      ({ sending with params := { sending.params with tFlush := 0 } } : State).params.tFlush = 0 := by decide +kernel

theorem witness_HaltTimeoutAndSilence :
    (up.resetAsserted = false ∧ up.framer.watch = .running) ∧ (held.resetAsserted = false ∧ held.framer.watch ≠ .running) ∧
      ({ up with engine := { up.engine with haltTimer := .running 1 } } : State).engine.haltTimer = .running 1 ∧
      (let s := arrived [0x60, 0, 9] 5 (linked .seeking up)
      s.framer.watch = .running ∧ s.Closing (some .hello) ∧ s.framer.valid = true ∧ s.link.state = .seeking ∧
        s.framer.headerOctet 2 ≠ BitVec.ofNat 8 s.params.station) := by
  decide +kernel

theorem witness_HelloFrames :
    let s (l : LinkState) := arrived [0x61, 0, 9] 5 (linked l up)
    (s .up).ClosingHello ∧ (s .confirming).ClosingHello ∧
      (tell .silentLine (s .seeking)).ClosingHello ∧ (tell .silentLine (s .seeking)).framer.rxState = .hunting := by
  decide +kernel

theorem witness_ConfirmationAndEntryIntoUp :
    let s := arrived [0x20, 0] 4 (linked .confirming up)
    s.Closing (some .ack) ∧ FrameType.ack ≠ .hello ∧ s.framer.valid = true ∧ s.pool.inbound = 0 ∧
      s.pool.inboundCells = [] ∧ s.framer.stored = [] ∧ s.link.state ≠ .up := by decide +kernel

theorem witness_LinkTimers :
    let s (l : LinkState) (heard : Bool) : State := { up with link := { up.link with state := l, heard := heard } }
    let lost : State := { up with link := { up.link with state := .lost, holdOffTimer := .running 50 } }
    up.resetAsserted = false ∧ up.link.helloTimer = .running 10 ∧
      ((s .up true).link.intervalTimer = .running 10 ∧ (s .up true).link.heard = true) ∧
      ((s .confirming false).link.intervalTimer = .running 10 ∧ (s .confirming false).link.heard = false) ∧
      lost.link.holdOffTimer = .running 50 ∧ lost.link.state = .lost ∧
      (let last : State := arrived [0x20, 0x06] 4 { windowed with link := { windowed.link with lossCount := 3 } }
      last.ReceiverLaw ∧ last.Closing (some .ack) ∧ last.link.state = .up ∧ last.link.intervalTimer = .running 10 ∧
        last.link.heard = false ∧ last.params.nLoss ≤ last.link.lossCount + 1 ∧ last.framer.valid = true ∧
        last.engine.acceptable last.framer.ackField = true) := by
  unfold State.ReceiverLaw; decide +kernel

theorem witness_FlushExpiry :
    let s : State := { queued with link := { queued.link with state := .lost, flushTimer := .running 1000 } }
    s.resetAsserted = false ∧ s.link.flushTimer = .running 1000 ∧
      (s.port .p0).queue.any Frame.notifies = true ∧ s.LevelLaw := by
  unfold State.LevelLaw; decide +kernel

theorem witness_AckTimers :
    ledger.WindowLaw ∧
      (ledger.resetAsserted = false ∧ ledger.engine.ackTimer = .running 20 ∧
        ledger.engine.window = entry 3 1 :: [entry 4 2, entry 5 3]) ∧
      ({ ledger with engine := { ledger.engine with ackDelay := .running 2 } } : State).engine.ackDelay = .running 2 :=
  ⟨ledger_windowLaw, by decide +kernel, by decide +kernel⟩

theorem witness_ReceiverOutsideFrames :
    let s (r : RxState) : State := { up with framer := { up.framer with rxState := r } }
    let last : State := { s .receiving with framer := { (s .receiving).framer with count := 518 } }
    up.resetAsserted = false ∧ (s .hunting).framer.rxState = .hunting ∧ (s .discarding).framer.rxState = .discarding ∧
      (s .ignoring).framer.rxState = .ignoring ∧ up.framer.rxState = .between ∧ (0x10#8 : Byte) ≠ Config.marker ∧
      last.framer.rxState = .receiving ∧ last.framer.count = 518 ∧ (0x10#8 : Byte) ≠ Config.escape ∧
      ¬(s .hunting).ClosingHello ∧ ¬last.ClosingHello ∧ last.framer.type? ≠ some .hello := by
  decide +kernel

theorem witness_ReceivedOctet :
    let s : State := arrived [0x10] 517 up
    let e : State := { s with framer := { s.framer with escPending := true } }
    s.resetAsserted = false ∧ s.framer.rxState = .receiving ∧ (0x10#8 : Byte) ≠ Config.marker ∧
      Config.escape ≠ Config.marker ∧ s.framer.count < 518 ∧ s.framer.escPending = false ∧
      e.framer.escPending = true ∧ (0x10#8 : Byte) ≠ Config.escape := by decide +kernel

theorem witness_Acknowledgement :
    (ledger.OnLineLaw ∧ ledger.LevelLaw ∧ ((6 : Seq) - ledger.engine.va).toNat ≤ ledger.engine.window.length ∧
      ((3 : Seq) - ledger.engine.va).toNat ≤ ledger.engine.window.length) ∧
      (let s := arrived [0x20, 0x06] 4 ledger
      s.Closing (some .ack) ∧ s.framer.valid = true ∧ s.link.state = .up ∧
        s.engine.acceptable s.framer.ackField = true) :=
  ⟨⟨⟨by decide +kernel, fun h => absurd h (by decide +kernel)⟩, ledger_levelLaw, by decide +kernel,
    by decide +kernel⟩, by decide +kernel⟩

theorem witness_DataFrames :
    (let s := storing ledger
    s.Closing (some .data) ∧ s.framer.valid = true ∧ s.link.state = .up ∧
      s.engine.acceptable s.framer.ackField = true ∧ s.framer.admission = .admitted) ∧
      (let s := arrived [0x10, 0x06, 0, 0] 7 ledger
      s.Closing (some .data) ∧ s.framer.valid = true ∧ s.engine.acceptable s.framer.ackField = true ∧
        s.framer.admission ≠ .admitted ∧ s.framer.stored = [] ∧ s.pool.inbound = 0 ∧ s.pool.inboundCells = []) := by
  decide +kernel

theorem witness_RejectHaltGo :
    (let s (b : Byte) := arrived [b, 0x04] 4 ledger
    ((s 0x30).Closing (some .reject) ∧ (s 0x30).framer.valid = true ∧ (s 0x30).link.state = .up ∧
      (s 0x30).engine.acceptable (s 0x30).framer.ackField = true ∧ (s 0x30).engine.peerHalted = false ∧
      (s 0x30).heardAndAcknowledged.engine.round.map (·.origin) ≠ some (s 0x30).framer.ackField ∧
      (s 0x30).heardAndAcknowledged.engine.window = entry 4 2 :: [entry 5 3]) ∧
      ((s 0x40).Closing (some .halt) ∧ (s 0x40).framer.valid = true) ∧
      (s 0x50).Closing (some .go) ∧ (s 0x50).framer.valid = true) ∧
      (let s := arrived [0x30, 0x06] 4 ledger
      s.Closing (some .reject) ∧ s.framer.ackField = s.engine.vs ∧
        s.engine.acceptable s.framer.ackField = true) ∧
      (arrived [0x30, 0x06] 4 ledger).WindowLaw :=
  ⟨by decide +kernel, by decide +kernel, ledger_windowLaw⟩

theorem witness_InvalidFrames :
    (let s := arrived [0x70, 0] 4 up
    s.Closing none) ∧
      (let s := arrived [0x20, 0] 5 up
      s.Closing (some .ack) ∧ s.framer.valid = false) ∧
      (let s := arrived [0x20, 0x07] 4 ledger
      s.Closing (some .ack) ∧ s.framer.valid = true ∧ s.link.state = .up ∧
        s.engine.acceptable s.framer.ackField = false) := by decide +kernel

theorem witness_Arbitration :
    fourth.resetAsserted = false ∧ fourth.framer.tx = .idle ∧ fourth.link.state = .up ∧
      fourth.engine.peerHalted = false ∧ fourth.engine.window.length < fourth.params.w ∧ fourth.engine.round = none ∧
      fourth.engine.flowOwed = .none ∧ fourth.engine.rejectOwed = false ∧ fourth.winner = some .p3 ∧
      (fourth.port .p3).queue = { waiting 0 false with cls := some 1 } :: [] := by decide +kernel

/-- The peer's HALT, a window at W, and no queue, each of which leaves nothing to arbitrate. -/
theorem witness_Arbitration_none :
    ({ fourth with engine := { fourth.engine with peerHalted := true } } : State).engine.peerHalted = true ∧
      (let s : State := { fourth with params := { fourth.params with w := 3 } }
      s.params.w ≤ s.engine.window.length) ∧
      ∀ r, (up.port r).queue = [] :=
  ⟨rfl, by decide +kernel, fun r => by cases r <;> rfl⟩

theorem witness_RoundAndEndOfTransmission :
    (let s : State := { ledger with engine := { ledger.engine with round := some { origin := 3, next := 4 } } }
    s.resetAsserted = false ∧ s.framer.tx = .idle ∧ s.link.state = .up ∧ s.engine.peerHalted = false ∧
      s.engine.flowOwed = .none ∧ s.engine.rejectOwed = false ∧
      (s.engine.window.find? (·.seq == 4)).or s.engine.window.head? = some (entry 4 2)) ∧
      (sending.framer.tx = .sending { kind := .data, octets := [0x10], held := none } ∧
        sending.resetAsserted = false) ∧
      ledger.engine.round = none ∧ ledger.framer.tx = .idle := by decide +kernel

theorem witness_ShortFrames :
    let s (f : FlowFrame) (reject : Bool) : State :=
      { up with
        link := { up.link with helloDue := true }
        engine :=
          { up.engine with flowOwed := f, rejectOwed := reject, ackOwed := true, ackDelay := .expired } }
    let quiet : State := { s .none false with engine := up.engine }
    ((s .halt false).resetAsserted = false ∧ (s .halt false).framer.tx = .idle ∧ (s .halt false).link.state = .up) ∧
      (s .halt false).engine.flowOwed = .halt ∧ (s .go false).engine.flowOwed = .go ∧
      ((s .none true).engine.flowOwed = .none ∧ (s .none true).engine.rejectOwed = true) ∧
      ((s .none false).engine.round = none ∧ (s .none false).engine.ackOwed = true ∧
        (s .none false).engine.ackDelay = .expired) ∧
      (quiet.link.helloDue = true ∧ quiet.link.state = .up ∧ quiet.engine.ackOwed = false) ∧
      quiet.engine.flowOwed ≠ .halt ∧ quiet.engine.flowOwed ≠ .go ∧ quiet.engine.rejectOwed = false ∧
      up.link.helloDue = false := by decide +kernel

theorem witness_ShortFrames_noData : ∀ q, (up.port q).queue = [] := fun q => by cases q <;> rfl

/-- Payloads of one and of 512 octets. -/
theorem witness_FramesAreReceivedAsSent :
    let f (n : Nat) : Frame := { waiting 7 true with payload := List.replicate n 0xA9 }
    up.framer.rxState = .between ∧ (f 1).cls = some 2 ∧ (f 1).address = some 0xA9A8 ∧ 1 ≤ (f 1).payload.length ∧
      (f 512).payload.length ≤ 512 ∧ up.link.state = .up ∧ up.engine.vr = 0 ∧ up.engine.haltingPeer = false ∧
      8 + up.reservations ≤ up.pool.free ∧
      (FrameType.go, 0x5#4) ∈ [(FrameType.ack, 0x2#4), (.reject, 0x3#4), (.halt, 0x4#4), (.go, 0x5#4)] := by
  decide +kernel

theorem witness_StepKeepsInterruptLaw :
    let s : State :=
      { edit up .p0 fun ps => { ps with events := { flags := 4, mask := 4, irq := true } } with
        pending := [.ackEvents .p0 4] }
    s.InterruptLaw ∧ ∃ t, step s = .next t :=
  ⟨fun p => by cases p <;> rfl, _, rfl⟩

theorem witness_StepKeepsLeaseLaw :
    let s : State := { held with pending := [.leaseTimerExpiry] }
    s.LeaseLaw ∧ ∃ t, step s = .next t :=
  ⟨by unfold State.LeaseLaw; refine ⟨by decide +kernel, fun h e => ?_, by decide +kernel, by decide +kernel⟩
      cases e; decide +kernel, _, rfl⟩

theorem witness_StepKeepsSettingsLaws :
    let s : State := { ledger with pending := [.leaseAcquire .p0 0] }
    s.SettingsLaws ∧ ∃ t, step s = .next t := by
  refine ⟨⟨ledger_parameterLaw, ⟨fun p => ?_, by decide +kernel⟩, fun p => ?_⟩, _, rfl⟩
  · cases p <;> decide +kernel
  · cases p <;> decide +kernel

theorem witness_StepKeepsTableLaw :
    let s : State := { edited with pending := [.tableCommit .p0] }
    s.TableLaw ∧ s.CounterLaw ∧ ∃ t, step s = .next t :=
  ⟨edited_tableLaw, by unfold State.CounterLaw; decide +kernel, _, rfl⟩

theorem witness_StepKeepsLevelLaw :
    let s : State := { ledger with pending := [.openFrame .p0 512] }
    s.LevelLaw ∧ ∃ t, step s = .next t :=
  ⟨by unfold State.LevelLaw; decide +kernel, _, rfl⟩

theorem witness_StepKeepsLinkLaws :
    let s : State := { ledger with pending := [.silentLine] }
    s.LinkLaws ∧ ∃ t, step s = .next t :=
  ⟨⟨ledger_parameterLaw, by unfold State.LinkTimerLaw; decide +kernel, by unfold State.ReceiverLaw; decide +kernel,
    ledger_windowLaw, fun h => absurd rfl h, ledger_receptionLaw⟩, _, rfl⟩

theorem witness_StepKeepsAccountLaws :
    let s : State := { ledger with pending := [.ackTimerExpiry] }
    s.AccountLaws ∧ ∃ t, step s = .next t :=
  ⟨ledger_accountLaws, _, rfl⟩

theorem witness_LinkChangeIsRaised :
    let s : State := { ledger with engine := { ledger.engine with haltTimer := .running 1 } }
    exec .haltTimerExpiry s = .next (tell .haltTimerExpiry s) ∧ Instr.haltTimerExpiry ≠ .deviceReset ∧
      (tell .haltTimerExpiry s).link.state ≠ s.link.state :=
  ⟨rfl, by decide, by decide +kernel⟩

theorem witness_SharedSettingsNeedTheLease :
    exec (.setQuota .p2 0 0 0) held = .next (tell (.setQuota .p2 0 0 0) held) ∧
      Instr.setQuota .p2 0 0 0 ≠ .deviceReset ∧
      ¬((held.codeOf (.setQuota .p2 0 0 0)).any isManagementCode = true ∧
        ∃ p ∈ (Instr.setQuota .p2 0 0 0).port?, held.lease.holder = some p) ∧
      held.LinkLaws ∧ held.link.state = .off :=
  ⟨rfl, by decide, by rintro ⟨-, p, h, e⟩; cases h; exact absurd e (by decide),
    ⟨parameterLaw_of_reset rfl, by unfold State.LinkTimerLaw; decide +kernel,
      by unfold State.ReceiverLaw; decide +kernel, ⟨by decide +kernel, rfl, fun _ => rfl⟩, fun _ => rfl,
      fun h => absurd rfl h, fun h => absurd h (by decide +kernel), fun h => absurd h (by decide +kernel)⟩, rfl⟩

theorem witness_PortsAreIndependent :
    exec (.commitLocal .p0 0xF 0 0 1) slotted = .next (tell (.commitLocal .p0 0xF 0 0 1) slotted) ∧
      Instr.commitLocal .p0 0xF 0 0 1 ≠ .deviceReset ∧ (Instr.commitLocal .p0 0xF 0 0 1).port? ≠ some .p1 :=
  ⟨rfl, by decide, by decide⟩

end Sys2Proof.Tests
end

section
/-! SUPPORT. Commands that a ready port takes (R165 to R167): an effect that commutes with the fall of chip select is the
same whether the port is still closed or has its chip select low already. -/

namespace Sys2Proof.Machine

/-! ### Changes of a port that the judgement of the pool does not see -/

/-- A change of a port that leaves its reservation and neither sees nor hides a raised event: the pool is judged alike
before and after it (R5, R15). -/
structure PoolBlind (f : PortState → PortState) : Prop where
  reservation : ∀ ps, (f ps).reservation = ps.reservation
  raise : ∀ ps e, f (ps.raise e) = (f ps).raise e

theorem PoolBlind.fall (header : List Byte) : PoolBlind (·.fall header) := ⟨fun _ => rfl, fun _ _ => rfl⟩

theorem State.modPort_comm (s : State) {p q : Port} {f g : PortState → PortState} (h : ∀ ps, g (f ps) = f (g ps)) :
    (s.modPort p f).modPort q g = (s.modPort q g).modPort p f := by
  cases p <;> cases q <;> simp only [State.modPort, PerPort.set, PerPort.get, h]

theorem PoolBlind.sharedFree {f : PortState → PortState} (hf : PoolBlind f) (s : State) (p : Port) :
    (s.modPort p f).sharedFree = s.sharedFree := by
  refine State.sharedFree_congr (State.modPort_pool s p f ▸ rfl) fun q => ?_
  rw [State.port_modPort]
  split
  · exact hf.reservation _
  · rfl

theorem PoolBlind.raiseAll {f : PortState → PortState} (hf : PoolBlind f) (s : State) (p : Port) (e : Event) :
    (s.modPort p f).raiseAll e = (s.raiseAll e).modPort p f := by
  cases p <;> simp only [State.raiseAll, State.modPort, PerPort.map, PerPort.set, PerPort.get, hf.raise]

theorem PoolBlind.recordLevel {f : PortState → PortState} (hf : PoolBlind f) (s : State) (p : Port) :
    (s.modPort p f).recordLevel = s.recordLevel.modPort p f := by
  unfold State.recordLevel
  rw [hf.sharedFree]
  rfl

theorem PoolBlind.judgePoolLow {f : PortState → PortState} (hf : PoolBlind f) (s : State) (p : Port) :
    (s.modPort p f).judgePoolLow = s.judgePoolLow.modPort p f := by
  unfold State.judgePoolLow
  rw [hf.sharedFree, hf.raiseAll, hf.recordLevel, hf.recordLevel, State.modPort_params, State.modPort_pool]
  split <;> rfl

theorem PoolBlind.resumePeer {f : PortState → PortState} (hf : PoolBlind f) (s : State) (p : Port) :
    (s.modPort p f).resumePeer = s.resumePeer.modPort p f := by
  unfold State.resumePeer
  rw [hf.sharedFree, State.modPort_params, State.modPort_engine]
  split <;> rfl

theorem PoolBlind.settlePool {f : PortState → PortState} (hf : PoolBlind f) (s : State) (p : Port) :
    (s.modPort p f).settlePool = s.settlePool.modPort p f := by
  unfold State.settlePool
  rw [hf.judgePoolLow, hf.resumePeer]

/-! ### What a ready port takes -/

/-- What a command does, with a further change of one port. -/
def Taken.modPort (r : Taken) (p : Port) (f : PortState → PortState) : Taken := { r with state := r.state.modPort p f }

theorem State.answers_modPort (s : State) (p : Port) (f : PortState → PortState) (r : Result) (reply : List Byte) :
    (s.modPort p f).answers r reply = (s.answers r reply).modPort p f := rfl

theorem State.ifHolder_modPort (s : State) (p q : Port) (f : PortState → PortState) (act : Taken) :
    (s.modPort p f).ifHolder q (act.modPort p f) = (s.ifHolder q act).modPort p f := by
  unfold State.ifHolder
  rw [State.modPort_lease]
  split <;> rfl

theorem State.ifHolder_of_holder {s : State} {p : Port} (h : s.lease.holder = some p) (act : Taken) :
    s.ifHolder p act = act := if_pos h

theorem State.ifHolder_of_not_holder {s : State} {p : Port} (h : s.lease.holder ≠ some p) (act : Taken) :
    s.ifHolder p act = s.answers .notHolder := if_neg h

/-- The transaction that answers a command hides a fall of chip select before it. -/
theorem State.answered_fall (s : State) (p : Port) (n : Nat) (r : Result) (reply : List Byte) (t : State)
    (phase : DataPhase) (header : List Byte) :
    s.answered p n r reply (t.modPort p (·.fall header)) phase = s.answered p n r reply t phase := by
  unfold State.answered
  rw [State.modPort_modPort]
  rfl

/-- A ready port takes a command whose effect commutes with the fall of chip select: it acts on the state as it stands
(R165 to R167). -/
theorem State.takeCommand_ready {s : State} {p : Port} (h : s.Ready p) (n : Nat) {act : State → Taken}
    (hfall : act (s.modPort p (·.fall (s.header p))) = (act s).modPort p (·.fall (s.header p))) :
    s.takeCommand p n act = s.answered p n (act s).result (act s).reply (act s).state (act s).phase := by
  obtain ⟨hr, hclosed | ⟨got, hselected⟩⟩ := h.cases
  · rw [State.takeCommand_closed hr hclosed]
    simp only [hfall]
    exact State.answered_fall ..
  · exact State.takeCommand_selected hr hselected n act

end Sys2Proof.Machine
end

section
/-! SUPPORT. Quotas: the tests of SET QUOTA and what it replaces (R17). -/

namespace Sys2Proof

theorem Port.ofNat?_toNat (q : Port) : Port.ofNat? q.toNat = some q := by cases q <;> rfl

theorem Port.ofNat?_eq_none {n : Nat} (h : 3 < n) : Port.ofNat? n = none := by
  match n, h with
  | _ + 4, _ => rfl

namespace Machine

theorem State.floorSumWith_eq (s : State) (q : Port) (floor : Nat) :
    s.floorSumWith q floor = ((Port.all.filter (· ≠ q)).map fun r => (s.port r).floor).sum + floor := by
  cases q <;> simp [State.floorSumWith, Port.all] <;> omega

/-- Of the ports' states, the sum of the floors depends on the floors alone. -/
theorem State.floorSumWith_modPort (s : State) (p q : Port) (floor : Nat) {f : PortState → PortState}
    (hf : ∀ ps, (f ps).floor = ps.floor) : (s.modPort p f).floorSumWith q floor = s.floorSumWith q floor := by
  have hport : ∀ r, ((s.modPort p f).port r).floor = (s.port r).floor := fun r => by
    rw [State.port_modPort]
    split
    · exact hf _
    · rfl
  simp only [State.floorSumWith, hport]

theorem State.setQuota_badPort (s : State) {port : Nat} (h : 3 < port) (floor ceiling : Nat) :
    s.setQuota port floor ceiling = s.answers .badArg := by
  simp only [State.setQuota, Port.ofNat?_eq_none h]

/-- The second and the third test on a named port, and the replacement (R17). -/
theorem State.setQuota_toNat (s : State) (q : Port) (floor ceiling : Nat) :
    s.setQuota q.toNat floor ceiling =
      if 128 < floor ∨ ceiling < floor ∨ 512 < ceiling then s.answers .badArg
      else if 256 < s.floorSumWith q floor then s.answers .quotaSum
      else
        { state := (s.modPort q fun ps => { ps with floor := floor, ceiling := ceiling }).settlePool, result := .ok } := by
  have htest : ¬(floor ≤ Config.maxFloor ∧ floor ≤ ceiling ∧ ceiling ≤ Config.maxCeiling) ↔
      (128 < floor ∨ ceiling < floor ∨ 512 < ceiling) := by
    unfold Config.maxFloor Config.maxCeiling
    omega
  unfold State.setQuota
  rw [Port.ofNat?_toNat]
  exact if_congr htest rfl rfl

theorem PortState.fall_setQuotas (header : List Byte) (floor ceiling : Nat) (ps : PortState) :
    { ps.fall header with floor := floor, ceiling := ceiling } =
      PortState.fall { ps with floor := floor, ceiling := ceiling } header := rfl

/-- SET QUOTA sees no transaction: a fall of chip select before it is a fall after it. -/
theorem State.setQuota_fall (s : State) (p : Port) (header : List Byte) (port floor ceiling : Nat) :
    (s.modPort p (·.fall header)).setQuota port floor ceiling =
      (s.setQuota port floor ceiling).modPort p (·.fall header) := by
  unfold State.setQuota
  split
  case h_1 => rfl
  case h_2 q _ =>
    have hsum : (s.modPort p (·.fall header)).floorSumWith q floor = s.floorSumWith q floor :=
      State.floorSumWith_modPort s p q floor fun _ => rfl
    rw [hsum, State.modPort_comm s (PortState.fall_setQuotas header floor ceiling),
      (PoolBlind.fall header).settlePool]
    split_ifs <;> rfl

/-- SET QUOTA on a ready port: the test on the lease, then those on the arguments, on the state as it stands. -/
theorem exec_setQuota_ready {s : State} {p : Port} (h : s.Ready p) (port floor : Byte) (ceiling : Word) :
    let r := s.ifHolder p (s.setQuota port.toNat floor.toNat ceiling.toNat)
    exec (.setQuota p port floor ceiling) s = .next (s.answered p 4 r.result r.reply r.state r.phase) := by
  refine congrArg Host.Outcome.next (State.takeCommand_ready h 4 ?_)
  rw [State.setQuota_fall, State.ifHolder_modPort]

/-- Settles O22: the tests of R17 in order, each clause read off what a ready port answers. -/
theorem setQuota : Obligations.SetQuota := by
  intro s p q port floor ceiling hready
  rw [exec_setQuota_ready hready]
  refine ⟨fun hholder => ?_, fun hholder hport => ?_, fun hholder hport => ?_⟩
  · rw [State.ifHolder_of_not_holder hholder]
    rfl
  · rw [State.ifHolder_of_holder hholder, State.setQuota_badPort s hport]
    rfl
  · rw [State.ifHolder_of_holder hholder, hport, State.setQuota_toNat, State.floorSumWith_eq]
    split_ifs <;> rfl

end Machine
end Sys2Proof
end

section
/-! SUPPORT. What the shared operations read and change has no part in a port's transaction: before and after a fall of
chip select they are the same, so that a command on a ready port acts on the state as it stands (R165 to R167). -/

namespace Sys2Proof.Machine

/-! ### What a fall of chip select leaves -/

/-- What a fall of chip select leaves of a port is read alike on every port before and after it. -/
theorem State.read_fall {α : Type} {g : PortState → α} {header : List Byte} (hg : ∀ ps, g (ps.fall header) = g ps)
    (s : State) (p q : Port) : g ((s.modPort p (·.fall header)).port q) = g (s.port q) := by
  rw [State.port_modPort]
  split
  · exact hg _
  · rfl

@[simp] theorem State.slot_fall (s : State) (p q : Port) (header : List Byte) :
    ((s.modPort p (·.fall header)).port q).slot = (s.port q).slot :=
  State.read_fall (g := PortState.slot) (fun _ => rfl) s p q

@[simp] theorem State.queue_fall (s : State) (p q : Port) (header : List Byte) :
    ((s.modPort p (·.fall header)).port q).queue = (s.port q).queue :=
  State.read_fall (g := PortState.queue) (fun _ => rfl) s p q

@[simp] theorem State.holdings_fall (s : State) (p q : Port) (header : List Byte) :
    ((s.modPort p (·.fall header)).port q).holdings = (s.port q).holdings :=
  State.read_fall (g := PortState.holdings) (fun _ => rfl) s p q

@[simp] theorem State.ceiling_fall (s : State) (p q : Port) (header : List Byte) :
    ((s.modPort p (·.fall header)).port q).ceiling = (s.port q).ceiling :=
  State.read_fall (g := PortState.ceiling) (fun _ => rfl) s p q

@[simp] theorem State.reservation_fall (s : State) (p q : Port) (header : List Byte) :
    ((s.modPort p (·.fall header)).port q).reservation = (s.port q).reservation :=
  State.read_fall (g := PortState.reservation) (fun _ => rfl) s p q

@[simp] theorem State.canPay_fall (s : State) (p q : Port) (header : List Byte) :
    ((s.modPort p (·.fall header)).port q).canPay = (s.port q).canPay :=
  State.read_fall (g := PortState.canPay) (fun _ => rfl) s p q

@[simp] theorem State.hasRoom_fall (s : State) (p q : Port) (header : List Byte) :
    ((s.modPort p (·.fall header)).port q).hasRoom = (s.port q).hasRoom :=
  State.read_fall (g := PortState.hasRoom) (fun _ => rfl) s p q

@[simp] theorem State.lacksSlot_fall (s : State) (p q : Port) (header : List Byte) :
    ((s.modPort p (·.fall header)).port q).lacksSlot = (s.port q).lacksSlot :=
  State.read_fall (g := PortState.lacksSlot) (fun _ => rfl) s p q

@[simp] theorem State.reservedByOthers_fall (s : State) (p q : Port) (header : List Byte) :
    (s.modPort p (·.fall header)).reservedByOthers q = s.reservedByOthers q := by
  simp only [State.reservedByOthers, State.reservation_fall]

@[simp] theorem State.transmitCount_fall (s : State) (p q : Port) (header : List Byte) :
    (s.modPort p (·.fall header)).transmitCount q = s.transmitCount q := by
  unfold State.transmitCount
  rw [State.queue_fall]
  rfl

/-- A change of a port that does not see its transaction is the same before and after a fall of chip select. -/
theorem State.modPort_fall (s : State) (p q : Port) (header : List Byte) {f : PortState → PortState}
    (hf : ∀ ps, f (ps.fall header) = (f ps).fall header) :
    (s.modPort p (·.fall header)).modPort q f = (s.modPort q f).modPort p (·.fall header) :=
  State.modPort_comm s hf

theorem State.settlePool_fall (s : State) (p : Port) (header : List Byte) :
    (s.modPort p (·.fall header)).settlePool = s.settlePool.modPort p (·.fall header) :=
  (PoolBlind.fall header).settlePool s p

/-! ### What a ready port answers -/

/-- Port p takes a command with n argument bytes in s, and r is what the command does (R165 to R167). -/
def State.answeredBy (s : State) (p : Port) (n : Nat) (r : Taken) : State :=
  s.answered p n r.result r.reply r.state r.phase

theorem State.answeredBy_answers (s : State) (p : Port) (n : Nat) (t : State) (r : Result) (reply : List Byte) :
    s.answeredBy p n (t.answers r reply) = s.answered p n r reply t := rfl

theorem State.answeredBy_ite (s : State) (p : Port) (n : Nat) (c : Prop) [Decidable c] (a b : Taken) :
    s.answeredBy p n (if c then a else b) = if c then s.answeredBy p n a else s.answeredBy p n b :=
  apply_ite ..

/-- A command that reads and changes nothing of a transaction acts, on a ready port, on the state as it stands. -/
theorem State.takeCommand_answeredBy {s : State} {p : Port} (h : s.Ready p) (n : Nat) {act : State → Taken}
    (hfall : ∀ header, act (s.modPort p (·.fall header)) = (act s).modPort p (·.fall header)) :
    s.takeCommand p n act = s.answeredBy p n (act s) :=
  State.takeCommand_ready h n (hfall _)

/-! ### Delivery and a fall of chip select -/

@[simp] theorem State.roomSet_fall (s : State) (p : Port) (header : List Byte) (targets : HostSet) :
    (s.modPort p (·.fall header)).roomSet targets = s.roomSet targets := by
  simp only [State.roomSet, State.hasRoom_fall]

@[simp] theorem State.choosePayer_fall (s : State) (p : Port) (header : List Byte) (k : Nat) (room : HostSet)
    (sender : Option Port) :
    (s.modPort p (·.fall header)).choosePayer k room sender = s.choosePayer k room sender := by
  simp only [State.choosePayer, State.canPay_fall]

@[simp] theorem State.deliveredSet_fall (s : State) (p : Port) (header : List Byte) (k : Nat) (targets : HostSet)
    (sender : Option Port) :
    (s.modPort p (·.fall header)).deliveredSet k targets sender = s.deliveredSet k targets sender := by
  simp only [State.deliveredSet, State.choosePayer_fall, State.roomSet_fall]

theorem State.returnFrames_fall (s : State) (p q : Port) (header : List Byte) (l : List Frame) :
    (s.modPort p (·.fall header)).returnFrames q l = (s.returnFrames q l).modPort p (·.fall header) := by
  unfold State.returnFrames
  rw [s.modPort_fall p q header fun _ => rfl]
  rfl

theorem State.freeFrame_fall (s : State) (p q : Port) (header : List Byte) (f : Frame) :
    (s.modPort p (·.fall header)).freeFrame q f = (s.freeFrame q f).modPort p (·.fall header) := by
  unfold State.freeFrame
  rw [State.returnFrames_fall, State.settlePool_fall]

theorem State.chargePayer_fall (s : State) (p : Port) (header : List Byte) (sender : Option Port) (payer : Port)
    (k : Nat) :
    (s.modPort p (·.fall header)).chargePayer sender payer k =
      (s.chargePayer sender payer k).modPort p (·.fall header) := by
  cases sender with
  | none =>
    unfold State.chargePayer
    dsimp only
    rw [s.modPort_fall p payer header fun _ => rfl]
    rfl
  | some q =>
    simp only [State.chargePayer, State.movePayment]
    split
    · rfl
    · rw [s.modPort_fall p q header fun _ => rfl, State.modPort_fall _ p payer header fun _ => rfl]

theorem State.refundAccount_fall (s : State) (p : Port) (header : List Byte) (sender : Option Port) (f : Frame) :
    (s.modPort p (·.fall header)).refundAccount sender f =
      (s.refundAccount sender f).modPort p (·.fall header) := by
  cases sender with
  | none => rfl
  | some q => exact s.returnFrames_fall p q header [f]

/-- A record that takes a list whose mark state is BELOW to its high mark moves the mark state (R138). -/
theorem PortState.appendRecord_high {ps : PortState} {r : RxRecord}
    (h : ps.rx.markState = .below ∧ ps.rx.high ≤ (ps.rx.records ++ [r]).length) :
    ps.appendRecord r =
      PortState.raise
        (PortState.raise { ps with rx := { ps.rx with records := ps.rx.records ++ [r], markState := .above } } .rxReady)
        .rxHigh :=
  if_pos h

/-- Any other record leaves the mark state (R138). -/
theorem PortState.appendRecord_not_high {ps : PortState} {r : RxRecord}
    (h : ¬(ps.rx.markState = .below ∧ ps.rx.high ≤ (ps.rx.records ++ [r]).length)) :
    ps.appendRecord r =
      PortState.raise { ps with rx := { ps.rx with records := ps.rx.records ++ [r] } } .rxReady :=
  if_neg h

theorem PortState.appendRecord_fall (ps : PortState) (header : List Byte) (r : RxRecord) :
    (ps.fall header).appendRecord r = (ps.appendRecord r).fall header := by
  by_cases h : ps.rx.markState = .below ∧ ps.rx.high ≤ (ps.rx.records ++ [r]).length
  · rw [PortState.appendRecord_high h, PortState.appendRecord_high (ps := ps.fall header) h]
    rfl
  · rw [PortState.appendRecord_not_high h, PortState.appendRecord_not_high (ps := ps.fall header) h]
    rfl

/-- Appending a record to each of a list of ports sees no transaction. -/
theorem State.appendRecords_fall (s : State) (p : Port) (header : List Byte) (r : RxRecord) (l : List Port) :
    l.foldl (fun t q => t.appendRecord r q) (s.modPort p (·.fall header)) =
      (l.foldl (fun t q => t.appendRecord r q) s).modPort p (·.fall header) :=
  List.foldl_hom (fun t => State.modPort t p (·.fall header)) fun t q =>
    t.modPort_fall p q header fun ps => ps.appendRecord_fall header r

/-- Telling each of a list of ports of its refusal sees no transaction. -/
theorem State.refusals_fall (s : State) (p : Port) (header : List Byte) (r : Port → LastRefusal) (l : List Port) :
    l.foldl (fun t q => t.refuse (r q) q) (s.modPort p (·.fall header)) =
      (l.foldl (fun t q => t.refuse (r q) q) s).modPort p (·.fall header) :=
  List.foldl_hom (fun t => State.modPort t p (·.fall header)) fun t q => t.modPort_fall p q header fun _ => rfl

/-- Appending a frame to the store is not seen by a port. -/
theorem State.storeFrame_modPort (s : State) (p : Port) (f : PortState → PortState) (x : Nat × Frame) :
    { s.modPort p f with frames := (s.modPort p f).frames ++ [x] } =
      State.modPort { s with frames := s.frames ++ [x] } p f := rfl

theorem State.deliver_fall (s : State) (p : Port) (header : List Byte) (f : Frame) (targets : HostSet)
    (source : Source) (first : Option Nat) (sender : Option Port) :
    (s.modPort p (·.fall header)).deliver f targets source first sender =
      (s.deliver f targets source first sender).modPort p (·.fall header) := by
  simp only [State.deliver, State.roomSet_fall, State.choosePayer_fall, State.chargePayer_fall,
    State.refundAccount_fall, State.settlePool_fall]
  cases s.choosePayer f.cellCount (s.roomSet targets) sender with
  | some payer =>
    dsimp only
    rw [State.storeFrame_modPort, State.appendRecords_fall, State.refusals_fall]
    rfl
  | none => exact State.refusals_fall ..

end Sys2Proof.Machine
end

section
/-! SUPPORT. Building, committing and cancelling frames (spec/02): the checks of each command in order, what a passing
one does, and the answer of a ready port. -/

namespace Sys2Proof.Machine

/-! ### OPEN FRAME -/

theorem PoolBlind.slot (slot : Option Frame) : PoolBlind fun ps => { ps with slot := slot } :=
  ⟨fun _ => rfl, fun _ _ => rfl⟩

/-- A granted claim of k cells by p, on whose slot a frame of the length opens, before the pool is judged (R7, R25). -/
def State.openSlot (s : State) (p : Port) (length k : Nat) : State :=
  (s.grantClaim p k).modPort p fun ps =>
    { ps with slot := some (openedFrame p length (drawCells s.freeTick k s.pool.freeCells).1) }

/-- The checks of R25 and R6 in order. -/
theorem State.openFrame_eq (s : State) (p : Port) (length : Nat) :
    s.openFrame p length =
      if (s.port p).slot ≠ none then s.answers .slotBusy
      else if length = 0 ∨ 512 < length then s.answers .badArg
      else if (s.port p).ceiling < (s.port p).holdings + cellsFor length then s.answers .overCeiling
      else if s.pool.free < cellsFor length + s.reservedByOthers p then s.answers .poolShort
      else { state := (s.openSlot p length (cellsFor length)).settlePool, result := .ok } := by
  have hopen : (s.openSlot p length (cellsFor length)).settlePool =
      (s.grantClaim p (cellsFor length)).settlePool.modPort p fun ps =>
        { ps with slot := some (openedFrame p length (drawCells s.freeTick (cellsFor length) s.pool.freeCells).1) } :=
    (PoolBlind.slot _).settlePool _ p
  simp only [State.openFrame, State.judgeClaim, PortState.canPay, Config.maxPayload, Option.isSome_iff_ne_none,
    decide_eq_true_eq, Nat.not_le, hopen]
  split_ifs <;> rfl

theorem State.openSlot_fall (s : State) (p : Port) (header : List Byte) (length k : Nat) :
    (s.modPort p (·.fall header)).openSlot p length k = (s.openSlot p length k).modPort p (·.fall header) := by
  cases p <;> rfl

theorem State.openFrame_fall (s : State) (p : Port) (header : List Byte) (length : Nat) :
    (s.modPort p (·.fall header)).openFrame p length = (s.openFrame p length).modPort p (·.fall header) := by
  simp only [State.openFrame_eq, State.slot_fall, State.holdings_fall, State.ceiling_fall,
    State.reservedByOthers_fall, State.modPort_pool, State.openSlot_fall, State.settlePool_fall]
  split_ifs <;> rfl

/-- The port of a granted claim in the terms of R25: what it holds, and the frame on its slot. -/
theorem State.openSlot_eq (s : State) (p : Port) (length k : Nat) :
    s.openSlot p length k =
      { s with
        pool := { s.pool with free := s.pool.free - k, freeCells := (drawCells s.freeTick k s.pool.freeCells).2 }
        freeTick := s.freeTick + k
        ports := s.ports.set p
          { s.port p with
            holdings := (s.port p).holdings + k
            slot := some (openedFrame p length (drawCells s.freeTick k s.pool.freeCells).1) } } := by
  cases p <;> rfl

theorem exec_openFrame_ready {s : State} {p : Port} (h : s.Ready p) (length : Word) :
    exec (.openFrame p length) s = .next (s.answeredBy p 2 (s.openFrame p length.toNat)) :=
  congrArg Host.Outcome.next (State.takeCommand_answeredBy h 2 fun header => s.openFrame_fall p header _)

/-- Settles O12: the cells drawn are that many of the free ones, and the checks of R25 decide what a ready port
answers. -/
theorem openFrame : Obligations.OpenFrame := by
  intro s p length m hready
  refine ⟨drawCells_perm s.freeTick m s.pool.freeCells, ?_⟩
  rw [exec_openFrame_ready hready, State.openFrame_eq, State.openSlot_eq]
  simp only [State.answeredBy_ite]
  rfl

/-! ### APPEND DATA -/

theorem State.appendData_fall (s : State) (p : Port) (header : List Byte) :
    (s.modPort p (·.fall header)).appendData p = (s.appendData p).modPort p (·.fall header) := by
  unfold State.appendData
  rw [State.slot_fall]
  rfl

/-- The result of the command itself: NO_FRAME on a closed slot (R26). -/
theorem State.appendData_result (s : State) (p : Port) :
    (s.appendData p).result = if (s.port p).slot = none then .noFrame else .ok := by
  unfold State.appendData
  cases (s.port p).slot <;> rfl

theorem exec_appendData_ready {s : State} {p : Port} (h : s.Ready p) :
    exec (.appendData p) s =
      .next (s.answered p 0 (if (s.port p).slot = none then .noFrame else .ok) [] s .append) := by
  rw [← State.appendData_result]
  exact congrArg Host.Outcome.next (State.takeCommand_answeredBy h 0 (s.appendData_fall p))

/-- A byte in the data phase of APPEND DATA: one byte is shifted out, and then the byte is handled (R26, R166). -/
theorem exec_appendDataByte_append {s : State} {p : Port} {r : Result} (hr : s.resetAsserted = false)
    (ht : (s.port p).txn = .opened r .append) (b : Byte) :
    exec (.appendDataByte p b) s = .next (s.modPort p fun ps => (ps.clocked 1).appendByte r b) := by
  simp only [exec, execAppendDataByte, hr, State.byteIn, ht, PortState.shiftOut_eq]
  rfl

/-- A byte is ignored after NO_FRAME and on a closed slot (R26). -/
theorem PortState.appendByte_ignored {ps : PortState} {r : Result} (h : r = .noFrame ∨ ps.slot = none) (b : Byte) :
    ps.appendByte r b = ps := by
  unfold PortState.appendByte
  cases hslot : ps.slot with
  | none => rfl
  | some f => exact if_pos (h.resolve_right (by simp [hslot]))

/-- A byte is written at the fill, or finds the frame full: OVERFILL (R26). -/
theorem PortState.appendByte_open {ps : PortState} {r : Result} {f : Frame} (hr : r ≠ .noFrame)
    (hf : ps.slot = some f) (b : Byte) :
    ps.appendByte r b =
      if f.payload.length < f.length then { ps with slot := some { f with payload := f.payload ++ [b] } }
      else { ps with txn := .opened .overfill .append } := by
  unfold PortState.appendByte
  rw [hf]
  exact if_neg hr

/-- Settles O13: the command on a ready port, then the three rows of R26 for a byte of its data phase. -/
theorem appendData : Obligations.AppendData := by
  intro s p b f r
  refine ⟨exec_appendData_ready, fun hreset htxn hignored => ?_, fun hreset htxn hr hslot => ?_⟩
  · rw [exec_appendDataByte_append hreset htxn]
    exact congrArg Host.Outcome.next
      (State.modPort_congr (PortState.appendByte_ignored (ps := (s.port p).clocked 1) hignored b))
  · rw [exec_appendDataByte_append hreset htxn]
    exact congrArg Host.Outcome.next
      (State.modPort_congr (PortState.appendByte_open (ps := (s.port p).clocked 1) hr hslot b))

/-! ### The commits -/

theorem classArg_eq (b : Byte) : classArg b = if 3 < b.toNat then none else some (Fin.ofNat 4 b.toNat) := by
  unfold classArg
  rw [← ite_not]
  exact if_congr Nat.not_lt rfl rfl

theorem PortState.lacksSlot_iff (ps : PortState) (notify : Bool) :
    ps.lacksSlot notify = true ↔ notify = true ∧ 16 ≤ ps.cpl.records.length + ps.cpl.reserved := by
  unfold PortState.lacksSlot
  rw [Bool.and_eq_true]
  exact and_congr_right' decide_eq_true_iff

theorem State.commitChecks_closed {s : State} {p : Port} (h : (s.port p).slot = none) (act : Frame → Taken) :
    s.commitChecks p act = s.answers .noFrame := by
  unfold State.commitChecks
  rw [h]

theorem State.commitChecks_open {s : State} {p : Port} {f : Frame} (h : (s.port p).slot = some f)
    (act : Frame → Taken) :
    s.commitChecks p act = if f.payload.length ≠ f.length then s.answers .notFull else act f := by
  unfold State.commitChecks
  rw [h]
  exact (ite_not ..).symm

/-- The shared checks of a commit see no transaction when what follows them sees none. -/
theorem State.commitChecks_fall (s : State) (p : Port) (header : List Byte) {act act' : Frame → Taken}
    (hact : ∀ f, act' f = (act f).modPort p (·.fall header)) :
    (s.modPort p (·.fall header)).commitChecks p act' = (s.commitChecks p act).modPort p (·.fall header) := by
  unfold State.commitChecks
  rw [State.slot_fall]
  split
  · rfl
  · rw [hact]
    split_ifs <;> rfl

/-! ### COMMIT TRUNK -/

theorem State.queueFrame_fall (s : State) (p : Port) (header : List Byte) (f : Frame) (notify : Bool) :
    (s.modPort p (·.fall header)).queueFrame p f notify = (s.queueFrame p f notify).modPort p (·.fall header) :=
  s.modPort_fall p p header fun _ => rfl

theorem State.commitTrunk_fall (s : State) (p : Port) (header : List Byte) (address : Word) (cls tag options : Byte) :
    (s.modPort p (·.fall header)).commitTrunk p address cls tag options =
      (s.commitTrunk p address cls tag options).modPort p (·.fall header) := by
  refine s.commitChecks_fall p header fun f => ?_
  cases classArg cls with
  | none => rfl
  | some c =>
    simp only [State.modPort_link, State.transmitCount_fall, State.lacksSlot_fall, State.queueFrame_fall]
    split_ifs <;> rfl

theorem State.commitTrunk_closed {s : State} {p : Port} (h : (s.port p).slot = none) (address : Word)
    (cls tag options : Byte) : s.commitTrunk p address cls tag options = s.answers .noFrame :=
  State.commitChecks_closed h _

/-- The frame as COMMIT TRUNK queues it: its fields are the command's (R31). -/
def Frame.committed (f : Frame) (address : Word) (cls tag options : Byte) : Frame :=
  { f with
    state := .waiting, cls := some (Fin.ofNat 4 cls.toNat), address := some address, tag := some tag
    notify := some (notifyOption options) }

/-- The checks of R30 on an open slot, in order. -/
theorem State.commitTrunk_open {s : State} {p : Port} {f : Frame} (h : (s.port p).slot = some f) (address : Word)
    (cls tag options : Byte) :
    s.commitTrunk p address cls tag options =
      if f.payload.length ≠ f.length then s.answers .notFull
      else if 3 < cls.toNat then s.answers .badArg
      else if s.link.state = .off then s.answers .linkOff
      else if s.link.flushed = true then s.answers .linkDown
      else if 16 ≤ s.transmitCount p then s.answers .queueFull
      else if options.getLsbD 0 = true ∧ 16 ≤ (s.port p).cpl.records.length + (s.port p).cpl.reserved then
        s.answers .noSlot
      else
        { state := s.queueFrame p (f.committed address cls tag options) (notifyOption options), result := .ok } := by
  refine (State.commitChecks_open h _).trans (if_congr .rfl rfl ?_)
  rw [classArg_eq]
  by_cases hcls : 3 < cls.toNat
  · simp only [if_pos hcls]
  · simp only [if_neg hcls, PortState.lacksSlot_iff]
    rfl

theorem exec_commitTrunk_ready {s : State} {p : Port} (h : s.Ready p) (address : Word) (cls tag options : Byte) :
    exec (.commitTrunk p address cls tag options) s =
      .next (s.answeredBy p 5 (s.commitTrunk p address cls tag options)) :=
  congrArg Host.Outcome.next
    (State.takeCommand_answeredBy h 5 fun header => s.commitTrunk_fall p header address cls tag options)

/-- Settles O14: NO_FRAME on a closed slot, and on an open one the other checks of R30 with the one step of R31. -/
theorem commitTrunk : Obligations.CommitTrunk := by
  intro s p address cls tag options f hready
  rw [exec_commitTrunk_ready hready]
  refine ⟨fun hclosed => ?_, fun hopen => ?_⟩
  · rw [State.commitTrunk_closed hclosed, State.answeredBy_answers]
  · rw [State.commitTrunk_open hopen]
    simp only [State.answeredBy_ite]
    rfl

/-! ### COMMIT LOCAL -/

theorem State.deliverLocal_fall (s : State) (p : Port) (header : List Byte) (f : Frame) (targets : HostSet) :
    (s.modPort p (·.fall header)).deliverLocal p f targets =
      (s.deliverLocal p f targets).modPort p (·.fall header) := by
  unfold State.deliverLocal
  simp only [State.deliveredSet_fall, State.deliver_fall]
  refine State.modPort_fall _ p p header fun ps => ?_
  split_ifs <;> rfl

theorem State.commitLocal_fall (s : State) (p : Port) (header : List Byte) (targets cls tag options : Byte) :
    (s.modPort p (·.fall header)).commitLocal p targets cls tag options =
      (s.commitLocal p targets cls tag options).modPort p (·.fall header) := by
  refine s.commitChecks_fall p header fun f => ?_
  cases classArg cls with
  | none => rfl
  | some c =>
    simp only [State.lacksSlot_fall, State.deliverLocal_fall]
    split_ifs <;> rfl

theorem State.deliveredSet_eq (s : State) (k : Nat) (targets : HostSet) (sender : Option Port) :
    s.deliveredSet k targets sender =
      if s.choosePayer k (s.roomSet targets) sender = none then 0#4 else s.roomSet targets := by
  unfold State.deliveredSet
  cases s.choosePayer k (s.roomSet targets) sender <;> rfl

/-- The frame as COMMIT LOCAL delivers it: class, tag and notify option are the command's (R35). -/
def Frame.submitted (f : Frame) (cls tag options : Byte) : Frame :=
  { f with cls := some (Fin.ofNat 4 cls.toNat), tag := some tag, notify := some (notifyOption options) }

/-- A passing COMMIT LOCAL: the delivery, and on the port itself the completion record with notify and the closed slot
(R35, R36). -/
theorem State.deliverLocal_submitted (s : State) (p : Port) (f : Frame) (targets : HostSet) (cls tag options : Byte) :
    s.deliverLocal p (f.submitted cls tag options) targets =
      (s.deliver (f.submitted cls tag options) targets (.fromPort p) none (some p)).modPort p fun ps =>
        if options.getLsbD 0 = true then
          { ps with
            slot := none
            cpl :=
              { ps.cpl with
                records :=
                  ps.cpl.records ++ [localRecord tag (s.deliveredSet (cellsFor f.length) targets (some p)) targets] }
            events := ps.events.raise .txDone }
        else { ps with slot := none } := by
  have hnotify : (f.submitted cls tag options).notifies = options.getLsbD 0 := rfl
  unfold State.deliverLocal
  refine State.modPort_congr ?_
  dsimp only
  rw [hnotify]
  split_ifs <;> rfl

/-- The checks of R34 on an open slot, in order. -/
theorem State.commitLocal_open {s : State} {p : Port} {f : Frame} (h : (s.port p).slot = some f)
    (targets cls tag options : Byte) :
    s.commitLocal p targets cls tag options =
      if f.payload.length ≠ f.length then s.answers .notFull
      else if 3 < cls.toNat ∨ hostSetArg targets = 0#4 then s.answers .badArg
      else if options.getLsbD 0 = true ∧ 16 ≤ (s.port p).cpl.records.length + (s.port p).cpl.reserved then
        s.answers .noSlot
      else { state := s.deliverLocal p (f.submitted cls tag options) (hostSetArg targets), result := .ok } := by
  refine (State.commitChecks_open h _).trans (if_congr .rfl rfl ?_)
  rw [classArg_eq]
  by_cases hcls : 3 < cls.toNat
  · simp only [hcls, true_or, if_true]
  · simp only [hcls, if_false, false_or, PortState.lacksSlot_iff]
    rfl

theorem State.commitLocal_closed {s : State} {p : Port} (h : (s.port p).slot = none)
    (targets cls tag options : Byte) : s.commitLocal p targets cls tag options = s.answers .noFrame :=
  State.commitChecks_closed h _

theorem exec_commitLocal_ready {s : State} {p : Port} (h : s.Ready p) (targets cls tag options : Byte) :
    exec (.commitLocal p targets cls tag options) s =
      .next (s.answeredBy p 4 (s.commitLocal p targets cls tag options)) :=
  congrArg Host.Outcome.next
    (State.takeCommand_answeredBy h 4 fun header => s.commitLocal_fall p header targets cls tag options)

/-- Settles O15: NO_FRAME on a closed slot, and on an open one the other checks of R34 with the delivery and the
record of R36. -/
theorem commitLocal : Obligations.CommitLocal := by
  intro s p targets cls tag options f hready
  rw [exec_commitLocal_ready hready]
  refine ⟨fun hclosed => ?_, fun hopen => ?_⟩
  · rw [State.commitLocal_closed hclosed, State.answeredBy_answers]
  · rw [State.commitLocal_open hopen, State.deliverLocal_submitted, State.deliveredSet_eq]
    simp only [State.answeredBy_ite]
    rfl

/-! ### DISCARD FRAME and CANCEL -/

/-- A frame ends after its port is edited: its cells come back, in either order with an edit that leaves the holdings
(R4). -/
theorem State.freeFrame_modPort (s : State) (p : Port) (f : Frame) {edit : PortState → PortState}
    (hedit : ∀ ps n,
      { edit ps with holdings := (edit ps).holdings - n } = edit { ps with holdings := ps.holdings - n }) :
    (s.modPort p edit).freeFrame p f = s.cellsBack p f edit := by
  have hcells : cellsOf [f] = (f.length + 63) / 64 := rfl
  have hlist : [f].flatMap Frame.cells = f.cells := List.flatMap_singleton ..
  unfold State.freeFrame State.returnFrames State.cellsBack
  rw [State.modPort_modPort, hcells, hlist, State.modPort, hedit]
  rfl

theorem State.discardFrame_closed {s : State} {p : Port} (h : (s.port p).slot = none) :
    s.discardFrame p = s.answers .noFrame := by
  unfold State.discardFrame
  rw [h]

theorem State.discardFrame_open {s : State} {p : Port} {f : Frame} (h : (s.port p).slot = some f) :
    s.discardFrame p = { state := s.cellsBack p f fun ps => { ps with slot := none }, result := .ok } := by
  unfold State.discardFrame
  rw [h, ← State.freeFrame_modPort s p f fun _ _ => rfl]

theorem State.discardFrame_fall (s : State) (p : Port) (header : List Byte) :
    (s.modPort p (·.fall header)).discardFrame p = (s.discardFrame p).modPort p (·.fall header) := by
  unfold State.discardFrame
  rw [State.slot_fall]
  split
  · rfl
  · rw [s.modPort_fall p p header fun _ => rfl, State.freeFrame_fall]
    rfl

theorem exec_discardFrame_ready {s : State} {p : Port} (h : s.Ready p) :
    exec (.discardFrame p) s = .next (s.answeredBy p 0 (s.discardFrame p)) :=
  congrArg Host.Outcome.next (State.takeCommand_answeredBy h 0 (s.discardFrame_fall p))

theorem Frame.notifies_iff (f : Frame) : f.notifies = true ↔ f.notify = some true := by
  unfold Frame.notifies
  cases f.notify <;> simp

/-- A waiting frame that CANCEL finds ends, and its reserved slot is released (R38). -/
theorem State.cancel_waiting {s : State} {p : Port} {tag : Byte} {f : Frame}
    (h : (s.port p).queue.find? (·.hasTag tag) = some f) :
    s.cancel p tag =
      { state :=
          s.cellsBack p f fun ps =>
            { ps with
              queue := ps.queue.eraseP (·.hasTag tag)
              cpl :=
                { ps.cpl with
                  reserved := if f.notify = some true then ps.cpl.reserved - 1 else ps.cpl.reserved } }
        result := .ok } := by
  unfold State.cancel State.cancelFrame
  rw [h]
  simp only [Frame.notifies_iff]
  rw [← State.freeFrame_modPort s p f fun _ _ => rfl]

/-- Without a waiting frame of the tag nothing changes, and the window decides the result (R38). -/
theorem State.cancel_not_waiting {s : State} {p : Port} {tag : Byte}
    (h : (s.port p).queue.find? (·.hasTag tag) = none) :
    s.cancel p tag =
      s.answers
        (if s.engine.window.any fun e => e.owner == p && !e.orphan && e.frame.hasTag tag then .inFlight
        else .notFound) := by
  unfold State.cancel
  rw [h]
  exact (apply_ite s.answers ..).symm

theorem State.cancel_fall (s : State) (p : Port) (header : List Byte) (tag : Byte) :
    (s.modPort p (·.fall header)).cancel p tag = (s.cancel p tag).modPort p (·.fall header) := by
  unfold State.cancel State.cancelFrame
  rw [State.queue_fall]
  split
  · rw [s.modPort_fall p p header fun _ => rfl, State.freeFrame_fall]
    rfl
  · rw [State.modPort_engine]
    split_ifs <;> rfl

theorem exec_cancel_ready {s : State} {p : Port} (h : s.Ready p) (tag : Byte) :
    exec (.cancel p tag) s = .next (s.answeredBy p 1 (s.cancel p tag)) :=
  congrArg Host.Outcome.next (State.takeCommand_answeredBy h 1 fun header => s.cancel_fall p header tag)

/-- Settles O16: DISCARD FRAME on a closed and on an open slot (R28), and CANCEL with and without a waiting frame of the
tag (R38). -/
theorem discardAndCancel : Obligations.DiscardAndCancel := by
  intro s p tag f hready
  rw [exec_discardFrame_ready hready, exec_cancel_ready hready]
  refine ⟨fun hclosed => ?_, fun hopen => ?_, fun hwaiting => ?_, fun hnone => ?_⟩
  · rw [State.discardFrame_closed hclosed, State.answeredBy_answers]
  · rw [State.discardFrame_open hopen]
    rfl
  · rw [State.cancel_waiting hwaiting]
    rfl
  · rw [State.cancel_not_waiting hnone, State.answeredBy_answers]
    rfl

end Sys2Proof.Machine
end

section
/-! SUPPORT. The arbiter (spec/03): candidates, ties and the order of search (R46). -/

namespace Sys2Proof

/-! ### The order of search -/

theorem Port.mem_all (q : Port) : q ∈ Port.all := by cases q <;> decide

theorem Port.mem_searchFrom (p q : Port) : q ∈ p.searchFrom := by cases p <;> cases q <;> decide

/-- How many ports a search after p passes over before it meets q. -/
def Port.placeAfter (p q : Port) : Nat := (q.toNat + 3 - p.toNat) % 4

theorem Port.searchFrom_pairwise (p : Port) :
    p.searchFrom.Pairwise fun q r => p.placeAfter q < p.placeAfter r := by cases p <;> decide

/-- In a list ordered by a measure, the first element that passes a test is the passing element of least measure. -/
theorem find?_eq_some_iff_least {α : Type} {place : α → Nat} {test : α → Bool} {l : List α} {w : α}
    (hl : l.Pairwise fun a b => place a < place b) :
    l.find? test = some w ↔ w ∈ l ∧ test w = true ∧ ∀ q ∈ l, test q = true → place w ≤ place q := by
  induction l with
  | nil => simp
  | cons a l ih =>
    obtain ⟨hfirst, hrest⟩ := List.pairwise_cons.mp hl
    cases htest : test a with
    | true =>
      rw [List.find?_cons_of_pos htest, Option.some_inj]
      constructor
      · rintro rfl
        exact ⟨List.mem_cons_self, htest, List.forall_mem_cons.mpr ⟨fun _ => le_rfl, fun q hq _ => (hfirst q hq).le⟩⟩
      · rintro ⟨hmem, -, hleast⟩
        refine (List.mem_cons.mp hmem).elim Eq.symm fun hw => ?_
        exact absurd (hleast a List.mem_cons_self htest) (hfirst w hw).not_ge
    | false =>
      have hpasses : ∀ {q}, test q = true → q ≠ a := by
        rintro q hq rfl
        simp [hq] at htest
      rw [List.find?_cons_of_neg (by simp [htest]), ih hrest, List.forall_mem_cons]
      constructor
      · rintro ⟨hmem, hw, hleast⟩
        exact ⟨List.mem_cons_of_mem a hmem, hw, fun ha => absurd rfl (hpasses ha), hleast⟩
      · rintro ⟨hmem, hw, -, hleast⟩
        exact ⟨List.mem_of_ne_of_mem (hpasses hw) hmem, hw, hleast⟩

namespace Machine

/-! ### Candidates and ties -/

theorem State.effectiveClass_eq (s : State) (p : Port) :
    s.effectiveClass p =
      (s.port p).queue.head?.map fun f => (f.cls.getD 0).val + if (s.port p).deferred = true then 1 else 0 := by
  unfold State.effectiveClass
  cases (s.port p).queue <;> rfl

/-- A port is a candidate exactly when it has a waiting frame (R45, R46). -/
theorem State.effectiveClass_eq_none {s : State} {p : Port} : s.effectiveClass p = none ↔ (s.port p).queue = [] := by
  rw [State.effectiveClass_eq, Option.map_eq_none_iff, List.head?_eq_none_iff]

theorem State.isTied_iff {s : State} {p : Port} :
    s.isTied p = true ↔ ∃ c ∈ s.effectiveClass p, ∀ r : Port, ∀ d ∈ s.effectiveClass r, c ≤ d := by
  unfold State.isTied
  cases s.effectiveClass p with
  | none => simp
  | some c =>
    simp only [List.all_eq_true, Port.mem_all, forall_const, Option.mem_some_iff, exists_eq_left']
    refine forall_congr' fun r => ?_
    cases s.effectiveClass r <;> simp

/-- Where there is a candidate, one of lowest effective class is tied. -/
theorem State.exists_isTied {s : State} {p : Port} (h : (s.port p).queue ≠ []) : ∃ w, s.isTied w = true := by
  classical
  have hcandidate : ∃ c r, c ∈ s.effectiveClass r := by
    obtain ⟨c, hc⟩ := Option.ne_none_iff_exists'.mp (mt State.effectiveClass_eq_none.mp h)
    exact ⟨c, p, hc⟩
  obtain ⟨w, hw⟩ := Nat.find_spec hcandidate
  exact ⟨w, State.isTied_iff.mpr ⟨_, hw, fun r d hd => Nat.find_min' hcandidate ⟨r, hd⟩⟩⟩

theorem State.queue_ne_nil_of_isTied {s : State} {p : Port} (h : s.isTied p = true) : (s.port p).queue ≠ [] := by
  obtain ⟨c, hc, -⟩ := State.isTied_iff.mp h
  intro hempty
  rw [State.effectiveClass_eq_none.mpr hempty] at hc
  exact Option.not_mem_none c hc

/-! ### The winner -/

theorem State.winner_eq_some {s : State} {w : Port} :
    s.winner = some w ↔
      s.isTied w = true ∧ ∀ q, s.isTied q = true → s.pointer.placeAfter w ≤ s.pointer.placeAfter q := by
  unfold State.winner
  rw [find?_eq_some_iff_least s.pointer.searchFrom_pairwise]
  simp only [Port.mem_searchFrom, true_and, forall_const]

theorem State.winner_eq_none {s : State} : s.winner = none ↔ ∀ q, (s.port q).queue = [] := by
  unfold State.winner
  rw [List.find?_eq_none]
  constructor
  · intro hnone q
    by_contra hwaiting
    obtain ⟨w, hw⟩ := State.exists_isTied hwaiting
    exact hnone w (Port.mem_searchFrom _ w) hw
  · intro hempty q _ hq
    exact State.queue_ne_nil_of_isTied hq (hempty q)

/-- Settles O45: the winner is the tied candidate of least place after the pointer, and the lack of one is the lack of a
waiting frame (R46). -/
theorem arbitrationWinner : Obligations.ArbitrationWinner := by
  intro s w rank tied place
  have htied : ∀ q, s.isTied q = true ↔ tied q := fun q => by
    rw [State.isTied_iff, funext s.effectiveClass_eq]
  refine ⟨?_, State.winner_eq_none⟩
  rw [State.winner_eq_some]
  simp only [htied]
  rfl

end Machine
end Sys2Proof
end

section
/-! SUPPORT. TRUNK ON (spec/05): from OFF the flush timer starts over empty queues (R52, R56), so that the move to
SEEKING changes the link, the receiver and the event units alone (R79). -/

namespace Sys2Proof.Machine

/-! ### The flush timer over empty queues -/

theorem State.failQueue_of_empty {s : State} {p : Port} (h : (s.port p).queue = []) (outcome : CplOutcome) :
    s.failQueue outcome p = s := by
  have hkept : (s.modPort p fun ps => { ps with queue := [] }) = s.modPort p fun ps => ps :=
    State.modPort_congr (by rw [← h])
  rw [State.failQueue, h, List.foldl_nil, hkept, State.modPort_id]

theorem State.failWaiting_of_empty {s : State} (h : ∀ q, (s.port q).queue = []) (outcome : CplOutcome) :
    s.failWaiting outcome = s := by
  simp only [State.failWaiting, Port.all, List.foldl_cons, List.foldl_nil, State.failQueue_of_empty (h _)]

/-- The start of a stopped flush timer with no frame waiting: with T_flush at 0 its expiry sets the flushed condition
and fails nothing (R52, R53, R56). -/
theorem State.startFlushTimer_of_empty {s : State} (hstopped : s.link.flushTimer = .stopped)
    (hempty : ∀ q, (s.port q).queue = []) :
    s.startFlushTimer =
      { s with
        link :=
          { s.link with
            flushTimer := if s.params.tFlush = 0 then .stopped else .running s.params.tFlush
            flushed := if s.params.tFlush = 0 then true else s.link.flushed } } := by
  obtain ⟨hrunning, -⟩ | ⟨-, hzero, hexpired⟩ | ⟨-, hpositive, hstarted⟩ := s.startFlushTimer_cases
  · exact absurd hstopped hrunning
  · rw [hexpired, State.flushExpiry, State.failWaiting_of_empty hempty, if_pos hzero, if_pos hzero]
  · rw [hstarted, if_neg hpositive, if_neg hpositive]

/-! ### TRUNK ON -/

/-- The state to which TRUNK ON brings an OFF link (R79). -/
def State.broughtUp (s : State) : State :=
  State.raiseAll
    { s with
      framer := { s.framer with rxState := .hunting, watch := .running }
      link :=
        { s.link with
          state := .seeking, confCount := 0, lossCount := 0, heard := false, helloDue := true
          helloTimer := .running s.params.tHello, intervalTimer := .stopped, holdOffTimer := .stopped
          flushTimer := if s.params.tFlush = 0 then .stopped else .running s.params.tFlush
          flushed := if s.params.tFlush = 0 then true else s.link.flushed } }
    .linkChange

theorem State.broughtUp_fall (s : State) (p : Port) (header : List Byte) :
    (s.modPort p (·.fall header)).broughtUp = s.broughtUp.modPort p (·.fall header) := by
  unfold State.broughtUp
  rw [← (PoolBlind.fall header).raiseAll]
  rfl

theorem State.trunkOn_of_not_off {s : State} (h : s.link.state ≠ .off) : s.trunkOn = s := if_neg h

theorem State.trunkOn_of_off {s : State} (hoff : s.link.state = .off) (hstopped : s.link.flushTimer = .stopped)
    (hempty : ∀ q, (s.port q).queue = []) : s.trunkOn = s.broughtUp := by
  rw [State.trunkOn, if_pos hoff]
  refine State.startFlushTimer_of_empty
    (s := State.enterSeeking { s with framer := { s.framer with rxState := .hunting, watch := .running } })
    hstopped fun q => ?waiting
  case waiting =>
    rw [State.enterSeeking, State.setLinkState, State.port_raiseAll]
    exact hempty q

/-- TRUNK ON of the lease holder on a ready port answers OK with its effect on the state as it stands, where that effect
is the same before and after a fall of chip select. -/
theorem exec_trunkOn_ready {s t : State} {p : Port} (h : s.Ready p) (hholder : s.lease.holder = some p)
    (heffect : s.trunkOn = t)
    (hfall : (s.modPort p (·.fall (s.header p))).trunkOn = t.modPort p (·.fall (s.header p))) :
    exec (.trunkOn p) s = .next (s.answered p 0 .ok [] t) := by
  have hturn : s.turnTrunkOn p = { state := t, result := .ok } := heffect ▸ State.ifHolder_of_holder hholder _
  have hturn_fall : (s.modPort p (·.fall (s.header p))).turnTrunkOn p =
      (s.turnTrunkOn p).modPort p (·.fall (s.header p)) := by
    rw [State.turnTrunkOn, hfall, State.ifHolder_of_holder (by rwa [State.modPort_lease]), hturn]
    rfl
  have htaken := State.takeCommand_ready h 0 (act := (·.turnTrunkOn p)) hturn_fall
  rw [hturn] at htaken
  exact congrArg Host.Outcome.next htaken

/-- Settles O30: the link's state decides whether TRUNK ON has an effect, and either way a fall of chip select commutes
with it (R79). -/
theorem trunkOn : Obligations.TrunkOn := by
  intro s p hready hholder
  constructor
  · intro hup
    exact exec_trunkOn_ready hready hholder (State.trunkOn_of_not_off hup) (State.trunkOn_of_not_off hup)
  · intro hoff hstopped hempty
    refine exec_trunkOn_ready hready hholder (State.trunkOn_of_off hoff hstopped hempty) ?_
    calc
      _ = (s.modPort p (·.fall (s.header p))).broughtUp :=
        State.trunkOn_of_off hoff hstopped fun q => by rw [State.queue_fall s, hempty]
      _ = s.broughtUp.modPort p (·.fall (s.header p)) := s.broughtUp_fall p _

end Sys2Proof.Machine
end

section
/-! SUPPORT. The closing marker of a frame in reception (spec/04 section 4.7): the framer's tests, the discard of a
frame that fails, and the way of a valid frame to the transfer engine in UP. -/

namespace Sys2Proof.Machine

/-! ### The tests -/

theorem Engine.acceptable_iff (e : Engine) (n : Seq) :
    e.acceptable n = true ↔ (n - e.va).toNat ≤ e.window.length := decide_eq_true_iff

theorem lengthValid_iff (t : FrameType) (count : Nat) :
    lengthValid t count = true ↔
      if t = .data then 7 ≤ count else if t = .hello then count = 5 else count = 4 := by
  cases t <;> simp [lengthValid, headerLength]

/-- The tests of R67, the marks of the escapes first. -/
theorem Framer.valid_iff (f : Framer) :
    f.valid = true ↔
      f.escPending = false ∧ f.badEscape = false ∧ f.crc = 0x1D0F#16 ∧
        ∃ t, f.type? = some t ∧ lengthValid t f.count = true := by
  unfold Framer.valid
  cases f.type? with
  | none => simp
  | some t => simp [Config.checkResidue, and_assoc, and_comm]

/-- A frame of no known type fails the tests (R67). -/
theorem Framer.valid_of_type?_none {f : Framer} (h : f.type? = none) : f.valid = false := by
  unfold Framer.valid
  rw [h, Bool.and_false]

/-! ### The closing marker -/

theorem exec_closingMarker (k : Option FrameType) (s : State) :
    exec (closingMarker k) s = .next (s.trunkEvent (·.closeOf k)) := by
  cases k with
  | none => rfl
  | some t => cases t <;> rfl

/-- A marker with a frame of its type in reception closes that frame (R59). -/
theorem exec_closingMarker_closing {s : State} {k : Option FrameType} (h : s.Closing k) :
    exec (closingMarker k) s = .next (State.closeFrame { s with framer := s.framer.clockSeen }) := by
  obtain ⟨hreset, hreceiving⟩ := h
  rw [exec_closingMarker, State.trunkEvent_live hreset, State.closeOf, if_pos (.inl hreceiving)]

/-- A frame that fails the framer's tests is discarded and counted (R67, R69). -/
theorem exec_closingMarker_of_not_valid {s : State} {k : Option FrameType} (h : s.Closing k)
    (hvalid : s.framer.valid = false) : exec (closingMarker k) s = .next s.atMarker.invalidFrame := by
  rw [exec_closingMarker_closing h]
  exact congrArg Host.Outcome.next (if_neg (ne_true_of_eq_false hvalid))

/-- A valid frame other than HELLO is handed on (R72). -/
theorem exec_closingMarker_of_valid {s : State} {t : FrameType} (h : s.Closing (some t)) (hhello : t ≠ .hello)
    (hvalid : s.framer.valid = true) : exec (closingMarker (some t)) s = .next (s.atMarker.handOnFrame t) := by
  rw [exec_closingMarker_closing h]
  obtain ⟨-, -, htype⟩ := h
  have hseen : s.framer.clockSeen.type? = some t := htype
  refine congrArg Host.Outcome.next ((if_pos hvalid).trans ?_)
  rw [hseen]
  cases t with
  | hello => exact absurd rfl hhello
  | data | ack | reject | halt | go => rfl

/-- In UP a valid frame other than HELLO is judged on its acknowledgement number (R68, R95). -/
theorem exec_closingMarker_of_up {s : State} {t : FrameType} (h : s.Closing (some t)) (hhello : t ≠ .hello)
    (hvalid : s.framer.valid = true) (hup : s.link.state = .up) :
    exec (closingMarker (some t)) s = .next (s.atMarker.frameInUp t) := by
  have hmarker : s.atMarker.link.state = .up := hup
  rw [exec_closingMarker_of_valid h hhello hvalid, State.handOnFrame, hmarker]

/-- A frame in UP whose number is not acceptable is an invalid one (R68). -/
theorem State.frameInUp_of_not_acceptable {s : State} (t : FrameType)
    (h : s.engine.acceptable s.framer.ackField = false) : s.frameInUp t = s.invalidFrame :=
  if_neg (ne_true_of_eq_false h)

/-! ### The discard of an invalid frame -/

/-- The part with the registers of its framer replaced. -/
def State.withFramer (f : Framer) (s : State) : State := { s with framer := f }

theorem State.judgePoolLow_withFramer (s : State) (f : Framer) :
    (s.withFramer f).judgePoolLow = s.judgePoolLow.withFramer f := by
  unfold State.judgePoolLow
  rw [apply_ite (State.withFramer f)]
  rfl

theorem State.resumePeer_withFramer (s : State) (f : Framer) :
    (s.withFramer f).resumePeer = s.resumePeer.withFramer f := by
  unfold State.resumePeer
  rw [apply_ite (State.withFramer f)]
  rfl

/-- The judgement of the pool neither reads nor changes the framer (R15, R113). -/
theorem State.settlePool_withFramer (s : State) (f : Framer) :
    (s.withFramer f).settlePool = s.settlePool.withFramer f := by
  unfold State.settlePool
  rw [State.judgePoolLow_withFramer, State.resumePeer_withFramer]

/-- An invalid frame leaves a count one higher and its cells free, and the pool is judged if it had any (R69, R10). -/
theorem State.invalidFrame_eq (s : State) :
    s.invalidFrame =
      let returned : State :=
        { s with
          framer := { s.framer with stored := [], invalidCount := saturatingSucc s.framer.invalidCount }
          pool :=
            { s.pool with
              free := s.pool.free + s.pool.inbound, inbound := 0
              freeCells := s.pool.freeCells ++ s.pool.inboundCells, inboundCells := [] } }
      if s.pool.inbound = 0 then returned else returned.settlePool := by
  unfold State.invalidFrame
  obtain ⟨hempty, hreleased⟩ | ⟨hcells, hreleased⟩ := s.releaseInbound_cases
  · rw [hreleased, if_pos hempty]
  · rw [hreleased, if_neg hcells]
    dsimp only
    rw [State.settlePool_framer]
    exact (State.settlePool_withFramer ..).symm

/-- Settles O44: the two tests as the definitions have them, and a frame that fails comes to the one discard, whichever
test it fails. -/
theorem invalidFrames : Obligations.InvalidFrames := by
  intro s k n
  refine ⟨s.engine.acceptable_iff n, ?_, fun hclosing hfails => ?_⟩
  · rw [Framer.valid_iff]
    simp only [lengthValid_iff]
  · have hdiscarded : exec (closingMarker k) s = .next s.atMarker.invalidFrame := by
      cases hvalid : s.framer.valid with
      | false => exact exec_closingMarker_of_not_valid hclosing hvalid
      | true =>
        cases k with
        | none =>
          obtain ⟨-, -, htype⟩ := hclosing
          exact absurd hvalid (by rw [Framer.valid_of_type?_none htype]; exact Bool.false_ne_true)
        | some t =>
          obtain ⟨hup, hhello, hnumber⟩ : s.link.state = .up ∧ some t ≠ some .hello ∧
              s.engine.acceptable s.framer.ackField = false := by simpa [hvalid] using hfails
          rw [exec_closingMarker_of_up hclosing (fun h => hhello (congrArg some h)) hvalid hup,
            State.frameInUp_of_not_acceptable (s := s.atMarker) t hnumber]
    rw [hdiscarded, State.invalidFrame_eq]
    rfl

end Sys2Proof.Machine
end

section
/-! SUPPORT. The window of the transfer engine (spec/06): its consecutive numbers, what an acknowledgement leaves of it,
and the retransmission of its head. -/

namespace Sys2Proof.Machine

/-! ### Consecutive numbers -/

/-- Consecutive numbers reach their end after as many steps as there are entries (R93). -/
theorem consecutiveFrom.last_eq {n last : Seq} {w : List WindowEntry} (h : consecutiveFrom n w last) :
    last = n + BitVec.ofNat 4 w.length := by
  induction w generalizing n with
  | nil => simpa [consecutiveFrom] using h.symm
  | cons e w ih =>
    obtain ⟨-, hrest⟩ := h
    rw [ih hrest, List.length_cons]
    bv_omega

/-- The number of an entry lies as far behind the first one as the entry stands in the window (R93). -/
theorem consecutiveFrom.seq_eq {n last : Seq} {w : List WindowEntry} (h : consecutiveFrom n w last) {e : WindowEntry}
    (he : e ∈ w) : ∃ i < w.length, e.seq = n + BitVec.ofNat 4 i := by
  induction w generalizing n with
  | nil => simp at he
  | cons x w ih =>
    obtain ⟨hx, hrest⟩ := h
    obtain rfl | hmem := List.mem_cons.mp he
    · exact ⟨0, by simp, by simpa using hx⟩
    · obtain ⟨i, hi, hseq⟩ := ih hrest hmem
      exact ⟨i + 1, by simpa using hi, by rw [hseq]; bv_omega⟩

/-- Without its first entries the window starts at a number as much higher (R93, R96). -/
theorem consecutiveFrom.drop {n last : Seq} {w : List WindowEntry} (h : consecutiveFrom n w last) {k : Nat}
    (hk : k ≤ w.length) : consecutiveFrom (n + BitVec.ofNat 4 k) (w.drop k) last := by
  induction k generalizing n w with
  | zero => simpa using h
  | succ k ih =>
    cases w with
    | nil => simp at hk
    | cons x w =>
      obtain ⟨-, hrest⟩ := h
      have hnext : n + BitVec.ofNat 4 (k + 1) = n + 1 + BitVec.ofNat 4 k := by bv_omega
      rw [hnext]
      exact ih hrest (Nat.le_of_succ_le_succ hk)

/-- Where the numbers start is the window base V(A) (R93). -/
theorem Engine.va_eq_of_consecutiveFrom {e : Engine} {n : Seq} (h : consecutiveFrom n e.window e.vs) : e.va = n := by
  unfold Engine.va
  cases hw : e.window with
  | nil =>
    rw [hw] at h
    exact Eq.symm h
  | cons x rest =>
    rw [hw] at h
    exact h.left

/-- No later entry of the window has the number of its head (R93: at most 7 entries, numbers modulo 16). -/
theorem State.WindowLaw.seq_ne_head {s : State} (h : s.WindowLaw) {x : WindowEntry} {rest : List WindowEntry}
    (hw : s.engine.window = x :: rest) {y : WindowEntry} (hy : y ∈ rest) : y.seq ≠ x.seq := by
  obtain ⟨hlength, hnumbers, -⟩ := h
  rw [hw] at hlength hnumbers
  obtain ⟨hhead, hrest⟩ := hnumbers
  obtain ⟨i, hi, hseq⟩ := hrest.seq_eq hy
  rw [List.length_cons] at hlength
  rw [hseq, hhead]
  bv_omega

/-- A window with entries does not start at V(S) (R93). -/
theorem State.WindowLaw.va_ne_vs {s : State} (h : s.WindowLaw) (hw : s.engine.window ≠ []) :
    s.engine.va ≠ s.engine.vs := by
  obtain ⟨hlength, hnumbers, -⟩ := h
  have hpositive := List.length_pos_of_ne_nil hw
  rw [hnumbers.last_eq]
  bv_omega

/-! ### The retransmission of the head -/

theorem Engine.va_of_window {e : Engine} {x : WindowEntry} {rest : List WindowEntry} (h : e.window = x :: rest) :
    e.va = x.seq := by
  unfold Engine.va
  rw [h]

theorem Engine.retryOf_head {e : Engine} {x : WindowEntry} {rest : List WindowEntry} (h : e.window = x :: rest) :
    e.retryOf x.seq = x.retry := by
  simp [Engine.retryOf, h]

theorem Engine.bumpRetry_head {e : Engine} {x : WindowEntry} {rest : List WindowEntry} (h : e.window = x :: rest)
    (hrest : ∀ y ∈ rest, y.seq ≠ x.seq) :
    e.bumpRetry x.seq = { e with window := { x with retry := x.retry + 1 } :: rest } := by
  have hkept : (rest.map fun y => if y.seq = x.seq then { y with retry := y.retry + 1 } else y) = rest :=
    (List.map_congr_left fun y hy => if_neg (hrest y hy)).trans rest.map_id
  unfold Engine.bumpRetry
  rw [h, List.map_cons, hkept, if_pos rfl]

/-- The head is to be sent again: the retry limit is reported, or its own count alone rises and a round starts from it
(R104, R106). -/
theorem State.retryFrom_head {s : State} {x : WindowEntry} {rest : List WindowEntry} (hlaw : s.WindowLaw)
    (hw : s.engine.window = x :: rest) :
    s.retryFrom x.seq =
      if s.params.nRetry ≤ x.retry then s.leaveUp .retryLimit
      else
        { s with
          engine :=
            { s.engine with
              window := { x with retry := x.retry + 1 } :: rest
              round := some { origin := x.seq, next := x.seq }
              ackTimer := .running s.params.tAck } } := by
  unfold State.retryFrom
  rw [Engine.retryOf_head hw, Engine.bumpRetry_head hw fun _ => hlaw.seq_ne_head hw]
  rfl

/-- Settles O38: the ack timer's expiry sends the head again (R104), and the ack-delay timer's makes the ACK due
(R99). -/
theorem ackTimers : Obligations.AckTimers := by
  intro s n x rest hreset
  refine ⟨fun hlaw htimer hw => ?_, fun hdelay => ?_⟩
  · have hexpiry : s.ackTimerExpiry = s.retryFrom x.seq := by
      unfold State.ackTimerExpiry
      simp only [htimer, hw, Engine.va_of_window hw]
    rw [← State.retryFrom_head hlaw hw, ← hexpiry]
    exact congrArg Host.Outcome.next (State.trunkEvent_live hreset _)
  · have hexpiry : s.ackDelayExpiry = { s with engine := { s.engine with ackDelay := .expired } } := by
      unfold State.ackDelayExpiry
      rw [hdelay]
    rw [← hexpiry]
    exact congrArg Host.Outcome.next (State.trunkEvent_live hreset _)

/-! ### What an acknowledgement leaves of the engine -/

/-- One engine is another but for what the judgement of the pool may change: the halting of the peer and the flow frame
owed (R113). -/
def Engine.SameButFlow (e d : Engine) : Prop :=
  e = { d with haltingPeer := e.haltingPeer, flowOwed := e.flowOwed }

theorem State.freeFrame_engine (s : State) (p : Port) (f : Frame) :
    (s.freeFrame p f).engine.SameButFlow s.engine := by
  obtain h | ⟨h, -⟩ := (s.returnFrames p [f]).settlePool_engine <;> rw [State.freeFrame, h] <;> rfl

theorem State.holdOnLine_engine (s : State) (p : Port) (f : Frame) :
    (s.holdOnLine p f).engine.SameButFlow s.engine := by
  unfold State.holdOnLine
  split
  · rfl
  · exact s.freeFrame_engine p f

/-- Of the engine, the head of the window leaves, and the pool is judged (R96, R113). -/
theorem State.ackHead_engine (s : State) :
    s.ackHead.engine.SameButFlow { s.engine with window := s.engine.window.tail } := by
  obtain ⟨hempty, h⟩ | ⟨e, rest, hw, h⟩ := s.ackHead_cases
  · rw [h, hempty, List.tail_nil, ← hempty]
    rfl
  · rw [h, hw]
    split_ifs
    · exact State.holdOnLine_engine ..
    · exact State.freeFrame_engine ..
    · exact State.holdOnLine_engine ..
    · exact State.freeFrame_engine ..

theorem Engine.SameButFlow.trans {e d c : Engine} (h : e.SameButFlow d) (h' : d.SameButFlow c) : e.SameButFlow c := by
  unfold Engine.SameButFlow at *
  rw [h, h']

theorem Engine.SameButFlow.setWindow {e d : Engine} (h : e.SameButFlow d) (w : List WindowEntry) :
    Engine.SameButFlow { e with window := w } { d with window := w } := by
  unfold Engine.SameButFlow at *
  rw [h]

theorem Engine.SameButFlow.window_eq {e d : Engine} (h : e.SameButFlow d) : e.window = d.window := by
  unfold Engine.SameButFlow at h
  rw [h]

theorem State.ackEntries_engine (s : State) (k : Nat) :
    (s.ackEntries k).engine.SameButFlow { s.engine with window := s.engine.window.drop k } := by
  induction k generalizing s with
  | zero => rfl
  | succ k ih =>
    have hhead := s.ackHead_engine
    have hrest := hhead.setWindow (s.ackHead.engine.window.drop k)
    refine (ih s.ackHead).trans ?_
    rwa [hhead.window_eq, List.drop_tail] at hrest ⊢

theorem State.ackHead_params (s : State) : s.ackHead.params = s.params := by
  obtain ⟨-, h⟩ | ⟨e, rest, -, h⟩ := s.ackHead_cases
  · rw [h]
  · rw [h]
    split_ifs <;> simp

theorem State.ackHead_link (s : State) : s.ackHead.link = s.link := by
  obtain ⟨-, h⟩ | ⟨e, rest, -, h⟩ := s.ackHead_cases
  · rw [h]
  · rw [h]
    split_ifs <;> simp

theorem State.ackEntries_params (s : State) (k : Nat) : (s.ackEntries k).params = s.params := by
  induction k generalizing s with
  | zero => rfl
  | succ k ih => exact (ih s.ackHead).trans s.ackHead_params

theorem State.ackEntries_link (s : State) (k : Nat) : (s.ackEntries k).link = s.link := by
  induction k generalizing s with
  | zero => rfl
  | succ k ih => exact (ih s.ackHead).trans s.ackHead_link

/-- After the entries have left, the ack timer and the round are all that may change further (R96, R103, R105). -/
theorem State.acknowledge_cases (s : State) (n : Seq) :
    ∃ timer round, s.acknowledge n =
      let t := s.ackEntries (n - s.engine.va).toNat
      { t with engine := { t.engine with ackTimer := timer, round := round } } := by
  unfold State.acknowledge
  dsimp only
  split_ifs <;> exact ⟨_, _, rfl⟩

@[simp] theorem State.acknowledge_params (s : State) (n : Seq) : (s.acknowledge n).params = s.params := by
  obtain ⟨timer, round, h⟩ := s.acknowledge_cases n
  rw [h, ← s.ackEntries_params (n - s.engine.va).toNat]

@[simp] theorem State.acknowledge_link (s : State) (n : Seq) : (s.acknowledge n).link = s.link := by
  obtain ⟨timer, round, h⟩ := s.acknowledge_cases n
  rw [h, ← s.ackEntries_link (n - s.engine.va).toNat]

/-- What an acknowledgement changes of the engine (R96, R103, R105, R113). -/
theorem State.acknowledge_engine (s : State) (n : Seq) :
    ∃ timer round halting flow,
      (s.acknowledge n).engine =
        { s.engine with
          window := s.engine.window.drop (n - s.engine.va).toNat
          ackTimer := timer, round := round, haltingPeer := halting, flowOwed := flow } := by
  obtain ⟨timer, round, h⟩ := s.acknowledge_cases n
  have hentries : (s.ackEntries (n - s.engine.va).toNat).engine = _ := s.ackEntries_engine _
  rw [h]
  dsimp only
  rw [hentries]
  exact ⟨timer, round, _, _, rfl⟩

@[simp] theorem State.acknowledge_window (s : State) (n : Seq) :
    (s.acknowledge n).engine.window = s.engine.window.drop (n - s.engine.va).toNat := by
  obtain ⟨_, _, _, _, h⟩ := s.acknowledge_engine n
  rw [h]

@[simp] theorem State.acknowledge_vs (s : State) (n : Seq) : (s.acknowledge n).engine.vs = s.engine.vs := by
  obtain ⟨_, _, _, _, h⟩ := s.acknowledge_engine n
  rw [h]

@[simp] theorem State.acknowledge_peerHalted (s : State) (n : Seq) :
    (s.acknowledge n).engine.peerHalted = s.engine.peerHalted := by
  obtain ⟨_, _, _, _, h⟩ := s.acknowledge_engine n
  rw [h]

@[simp] theorem State.acknowledge_haltTimer (s : State) (n : Seq) :
    (s.acknowledge n).engine.haltTimer = s.engine.haltTimer := by
  obtain ⟨_, _, _, _, h⟩ := s.acknowledge_engine n
  rw [h]

/-- An acceptable number leaves a window of consecutive numbers that starts at it (R93, R96). -/
theorem State.acknowledge_consecutiveFrom {s : State} {n : Seq} (hlaw : s.WindowLaw)
    (hn : s.engine.acceptable n = true) :
    consecutiveFrom n (s.acknowledge n).engine.window (s.acknowledge n).engine.vs := by
  obtain ⟨-, hnumbers, -⟩ := hlaw
  have hdrop := hnumbers.drop ((s.engine.acceptable_iff n).mp hn)
  have hbase : s.engine.va + BitVec.ofNat 4 (n - s.engine.va).toNat = n := by bv_omega
  rwa [hbase, ← State.acknowledge_window, ← s.acknowledge_vs n] at hdrop

/-- After an acceptable number the window base stands at it (R96). -/
theorem State.acknowledge_va {s : State} {n : Seq} (hlaw : s.WindowLaw) (hn : s.engine.acceptable n = true) :
    (s.acknowledge n).engine.va = n :=
  Engine.va_eq_of_consecutiveFrom (State.acknowledge_consecutiveFrom hlaw hn)

/-- An acceptable number keeps the law on the window (R93, R96). -/
theorem State.WindowLaw.acknowledge {s : State} {n : Seq} (hlaw : s.WindowLaw) (hn : s.engine.acceptable n = true) :
    (s.acknowledge n).WindowLaw := by
  have hnumbers : consecutiveFrom (s.acknowledge n).engine.va (s.acknowledge n).engine.window
      (s.acknowledge n).engine.vs := by
    rw [State.acknowledge_va hlaw hn]
    exact State.acknowledge_consecutiveFrom hlaw hn
  obtain ⟨hlength, -, hdown⟩ := hlaw
  refine ⟨?_, hnumbers, fun h => ?_⟩
  · rw [State.acknowledge_window, List.length_drop]
    exact (Nat.sub_le ..).trans hlength
  · rw [State.acknowledge_link] at h
    rw [State.acknowledge_window, hdown h, List.drop_nil]

end Sys2Proof.Machine
end

section
/-! SUPPORT. REJECT, HALT and GO in UP (spec/06): what each does once its number has acknowledged. -/

namespace Sys2Proof.Machine

/-! ### A valid frame with an acceptable number -/

/-- What a frame of a type does in UP after its acknowledgement (R96). -/
def State.actInUp (s : State) (t : FrameType) (n : Seq) : State :=
  match t with
  | .data => s.dataInUp
  | .ack => s
  | .reject => s.rejectInUp n
  | .halt => s.haltInUp
  | .go => s.goInUp
  | .hello => s

/-- A valid frame with an acceptable number in UP is heard, acknowledges, and then acts by its type (R77, R96). -/
theorem exec_closingMarker_of_acceptable {s : State} {t : FrameType} (h : s.Closing (some t)) (hhello : t ≠ .hello)
    (hvalid : s.framer.valid = true) (hup : s.link.state = .up)
    (hn : s.engine.acceptable s.framer.ackField = true) :
    exec (closingMarker (some t)) s = .next (s.heardAndAcknowledged.actInUp t s.framer.ackField) := by
  rw [exec_closingMarker_of_up h hhello hvalid hup]
  exact congrArg Host.Outcome.next (if_pos hn)

section HeardAndAcknowledged

variable {s : State}

@[simp] theorem State.heardAndAcknowledged_params (s : State) : s.heardAndAcknowledged.params = s.params :=
  State.acknowledge_params ..

@[simp] theorem State.heardAndAcknowledged_vs (s : State) : s.heardAndAcknowledged.engine.vs = s.engine.vs :=
  State.acknowledge_vs ..

@[simp] theorem State.heardAndAcknowledged_peerHalted (s : State) :
    s.heardAndAcknowledged.engine.peerHalted = s.engine.peerHalted :=
  State.acknowledge_peerHalted ..

@[simp] theorem State.heardAndAcknowledged_haltTimer (s : State) :
    s.heardAndAcknowledged.engine.haltTimer = s.engine.haltTimer :=
  State.acknowledge_haltTimer ..

/-- The base of the window stands at the frame's number (R96). -/
theorem State.heardAndAcknowledged_va (hlaw : s.WindowLaw) (hn : s.engine.acceptable s.framer.ackField = true) :
    s.heardAndAcknowledged.engine.va = s.framer.ackField :=
  State.acknowledge_va (s := { s.atMarker with link := { s.link with heard := true } }) hlaw hn

theorem State.WindowLaw.heardAndAcknowledged (hlaw : s.WindowLaw)
    (hn : s.engine.acceptable s.framer.ackField = true) : s.heardAndAcknowledged.WindowLaw :=
  State.WindowLaw.acknowledge (s := { s.atMarker with link := { s.link with heard := true } }) hlaw hn

end HeardAndAcknowledged

/-! ### The three frames -/

/-- The three cases in which R106 ignores a REJECT. -/
theorem State.rejectInUp_ignored {s : State} {n : Seq}
    (h : s.engine.peerHalted = true ∨ n = s.engine.vs ∨ s.engine.round.map (·.origin) = some n) :
    s.rejectInUp n = s := by
  unfold State.rejectInUp
  split_ifs with hhalted hempty hround
  · rfl
  · rfl
  · rfl
  · simp [hhalted, hempty, hround] at h

/-- A REJECT that is not ignored has the entry of its number sent again (R106). -/
theorem State.rejectInUp_taken {s : State} {n : Seq} (hhalted : s.engine.peerHalted = false) (hn : n ≠ s.engine.vs)
    (hround : s.engine.round.map (·.origin) ≠ some n) : s.rejectInUp n = s.retryFrom n := by
  unfold State.rejectInUp
  rw [if_neg (ne_true_of_eq_false hhalted), if_neg hn, if_neg hround]

theorem State.haltInUp_eq (s : State) :
    s.haltInUp =
      { s with
        engine :=
          { s.engine with
            peerHalted := true, round := none, ackTimer := .stopped
            haltTimer := if s.engine.haltTimer = .stopped then .running s.params.tHalt else s.engine.haltTimer } } := by
  unfold State.haltInUp
  cases s.engine.haltTimer <;> rfl

theorem State.goInUp_eq (s : State) :
    s.goInUp =
      { s with
        engine :=
          { s.engine with
            peerHalted := false, haltTimer := .stopped
            round :=
              if s.engine.window = [] then s.engine.round
              else some { origin := s.engine.va, next := s.engine.va }
            ackTimer := if s.engine.window = [] then s.engine.ackTimer else .running s.params.tAck } } := by
  unfold State.goInUp
  by_cases hempty : s.engine.window = []
  · simp only [hempty, if_true]
  · simp only [hempty, if_false]
    rfl

/-- Settles O43: each of the three acts on the state that its acknowledgement leaves, whose window starts at the
frame's number (R106, R108, R110). -/
theorem rejectHaltGo : Obligations.RejectHaltGo := by
  intro s k x rest hclosing hvalid hup hlaw hn n a
  have hva : a.engine.va = n := State.heardAndAcknowledged_va hlaw hn
  have hwindow : a.WindowLaw := hlaw.heardAndAcknowledged hn
  have hparams : a.params = s.params := s.heardAndAcknowledged_params
  have hvs : a.engine.vs = s.engine.vs := s.heardAndAcknowledged_vs
  have hhalted : a.engine.peerHalted = s.engine.peerHalted := s.heardAndAcknowledged_peerHalted
  have htimer : a.engine.haltTimer = s.engine.haltTimer := s.heardAndAcknowledged_haltTimer
  have hacts (hhello : k ≠ .hello) : exec (closingMarker (some k)) s = .next (a.actInUp k n) :=
    exec_closingMarker_of_acceptable hclosing hhello hvalid hup hn
  refine ⟨?ignored, ?taken, ?halt, ?go⟩
  case ignored =>
    rintro rfl hcase
    rw [← hhalted, ← hvs] at hcase
    exact (hacts (by decide)).trans (congrArg Host.Outcome.next (State.rejectInUp_ignored hcase))
  case taken =>
    rintro rfl hgoing hround hw
    have hhead : x.seq = n := (Engine.va_of_window hw).symm.trans hva
    have hbelow : n ≠ a.engine.vs := hva ▸ hwindow.va_ne_vs (by simp [hw])
    rw [← hparams, ← hhead, ← State.retryFrom_head hwindow hw, hhead,
      ← State.rejectInUp_taken (hhalted.trans hgoing) hbelow hround]
    exact hacts (by decide)
  case halt =>
    rintro rfl
    rw [← htimer, ← hparams, ← State.haltInUp_eq]
    exact hacts (by decide)
  case go =>
    rintro rfl
    rw [← hva, ← hparams, ← State.goInUp_eq]
    exact hacts (by decide)

end Sys2Proof.Machine
end

section
/-! SUPPORT. The lookup of an accepted frame (spec/07): how far the scan of the active table reaches, what it finds
there, and what becomes of a frame that no host claims (R119 to R121, R134). -/

namespace Sys2Proof

theorem HostSet.has_empty (q : Port) : HostSet.has 0#4 q = false := by cases q <;> rfl

theorem HostSet.has_or (h k : HostSet) (q : Port) : HostSet.has (h ||| k) q = (h.has q || k.has q) :=
  BitVec.getLsbD_or

namespace Machine

/-! ### The reach of the scan -/

/-- Whether an entry ends the scan: it matches, and its stop flag is set (R120). -/
def TableEntry.ends (e : TableEntry) (address : Word) : Bool := e.hit address && e.stop

/-- Whether the scan of a table examines the entry at index j: no entry before it ends the scan (R120). -/
def scanReaches (address : Word) (l : List ActiveEntry) (j : Nat) : Bool :=
  (l.take j).all fun a => !a.entry.ends address

theorem TableEntry.hit_iff (e : TableEntry) (address : Word) :
    e.hit address = true ↔ e.inUse = true ∧ address &&& e.mask = e.address &&& e.mask := by
  rw [TableEntry.hit, Bool.and_eq_true, beq_iff_eq]

theorem scanReaches_iff (address : Word) (l : List ActiveEntry) (j : Nat) :
    scanReaches address l j = true ↔ ∀ a ∈ l.take j, ¬(a.entry.hit address = true ∧ a.entry.stop = true) := by
  simp only [scanReaches, TableEntry.ends, List.all_eq_true, Bool.not_eq_true', Bool.and_eq_true, ← Bool.not_eq_true]

@[simp] theorem scanReaches_zero (address : Word) (l : List ActiveEntry) : scanReaches address l 0 = true := rfl

@[simp] theorem scanReaches_cons_succ (address : Word) (a : ActiveEntry) (l : List ActiveEntry) (j : Nat) :
    scanReaches address (a :: l) (j + 1) = (!a.entry.ends address && scanReaches address l j) := rfl

/-! ### The scan entry by entry -/

/-- An active entry after its match is counted (R119). -/
def ActiveEntry.counted (a : ActiveEntry) : ActiveEntry := { a with hits := saturatingSucc a.hits }

section
variable {address : Word} {a : ActiveEntry} (i : Nat) (l : List ActiveEntry)

theorem scanFrom_cons_ends (hhit : a.entry.hit address = true) (hstop : a.entry.stop = true) :
    scanFrom address i (a :: l) = { entries := a.counted :: l, hosts := a.entry.hosts, first := some i } := by
  rw [scanFrom, if_pos hhit]
  exact if_pos hstop

theorem scanFrom_cons_goes_on (hhit : a.entry.hit address = true) (hstop : a.entry.stop = false) :
    scanFrom address i (a :: l) =
      { entries := a.counted :: (scanFrom address (i + 1) l).entries
        hosts := a.entry.hosts ||| (scanFrom address (i + 1) l).hosts, first := some i } := by
  rw [scanFrom, if_pos hhit]
  exact if_neg (ne_true_of_eq_false hstop)

theorem scanFrom_cons_misses (hmiss : a.entry.hit address = false) :
    scanFrom address i (a :: l) =
      { scanFrom address (i + 1) l with entries := a :: (scanFrom address (i + 1) l).entries } := by
  rw [scanFrom, if_neg (ne_true_of_eq_false hmiss)]

end

/-- The scan counts the matches it reaches and leaves every other entry as it was (R119, R120). -/
theorem scanFrom_entries_getElem? (address : Word) (i : Nat) (l : List ActiveEntry) (j : Nat) :
    (scanFrom address i l).entries[j]? =
      l[j]?.map fun a => if a.entry.hit address && scanReaches address l j then a.counted else a := by
  induction l generalizing i j with
  | nil => rfl
  | cons a l ih =>
    cases hhit : a.entry.hit address with
    | false =>
      rw [scanFrom_cons_misses i l hhit]
      cases j with
      | zero => simp [hhit]
      | succ j => simp [ih, TableEntry.ends, hhit]
    | true =>
      cases hstop : a.entry.stop with
      | true =>
        rw [scanFrom_cons_ends i l hhit hstop]
        cases j with
        | zero => simp [hhit]
        | succ j => simp [TableEntry.ends, hhit, hstop]
      | false =>
        rw [scanFrom_cons_goes_on i l hhit hstop]
        cases j with
        | zero => simp [hhit]
        | succ j => simp [ih, TableEntry.ends, hhit, hstop]

/-- An entry of a list is its head, or an entry of its tail one index further on. -/
theorem exists_getElem?_cons {α : Type} (a : α) (l : List α) (P : Nat → α → Prop) :
    (∃ j e, (a :: l)[j]? = some e ∧ P j e) ↔ P 0 a ∨ ∃ j e, l[j]? = some e ∧ P (j + 1) e := by
  rw [← Nat.or_exists_add_one]
  simp

/-- The scan finds the union of the host sets of the matches it reaches (R119, R120). -/
theorem scanFrom_hosts_has (address : Word) (i : Nat) (l : List ActiveEntry) (q : Port) :
    (scanFrom address i l).hosts.has q = true ↔
      ∃ j e, l[j]? = some e ∧
        (e.entry.hit address = true ∧ scanReaches address l j = true ∧ e.entry.hosts.has q = true) := by
  induction l generalizing i with
  | nil => simp [scanFrom, HostSet.has_empty]
  | cons a l ih =>
    rw [exists_getElem?_cons]
    cases hhit : a.entry.hit address with
    | false =>
      rw [scanFrom_cons_misses i l hhit]
      simp [ih, TableEntry.ends, hhit]
    | true =>
      cases hstop : a.entry.stop with
      | true =>
        rw [scanFrom_cons_ends i l hhit hstop]
        simp [TableEntry.ends, hhit, hstop]
      | false =>
        rw [scanFrom_cons_goes_on i l hhit hstop]
        simp [ih, HostSet.has_or, TableEntry.ends, hhit, hstop]

/-- The first index with a property: the entry there has it, and none before it does. -/
theorem findIdx?_eq_some_iff_take {α : Type} (P : α → Bool) (l : List α) (i : Nat) :
    l.findIdx? P = some i ↔ (∃ e ∈ l[i]?, P e = true) ∧ ∀ e ∈ l.take i, ¬P e = true := by
  induction l generalizing i with
  | nil => simp
  | cons a l ih =>
    cases i with
    | zero => by_cases ha : P a <;> simp [List.findIdx?_cons, ha]
    | succ i => by_cases ha : P a <;> simp [List.findIdx?_cons, ha, ih]

/-- The first match of a scan is the first of the table: no entry before it ends the scan (R119). -/
theorem scanFrom_first (address : Word) (i : Nat) (l : List ActiveEntry) :
    (scanFrom address i l).first = (l.findIdx? (·.entry.hit address)).map (· + i) := by
  induction l generalizing i with
  | nil => rfl
  | cons a l ih =>
    rw [List.findIdx?_cons]
    cases hhit : a.entry.hit address with
    | false =>
      rw [scanFrom_cons_misses i l hhit]
      simp [ih, Function.comp_def, Nat.add_assoc, Nat.add_comm 1]
    | true =>
      cases hstop : a.entry.stop with
      | true => simp [scanFrom_cons_ends i l hhit hstop]
      | false => simp [scanFrom_cons_goes_on i l hhit hstop]

/-! ### Where the frame goes -/

/-- The state after the scan for an address, its matches counted (R119). -/
def State.scanned (s : State) (address : Word) : State :=
  { s with classifier := { s.classifier with active := (scanFrom address 0 s.classifier.active).entries } }

/-- The state with another classifier. -/
def State.withClassifier (s : State) (c : Classifier) : State := { s with classifier := c }

/-- The judgement of the pool neither reads nor changes the classifier (R15, R113). -/
theorem State.settlePool_withClassifier (s : State) (c : Classifier) :
    (s.withClassifier c).settlePool = s.settlePool.withClassifier c := by
  have hjudge : (s.withClassifier c).judgePoolLow = s.judgePoolLow.withClassifier c := by
    unfold State.judgePoolLow
    rw [apply_ite (State.withClassifier · c)]
    rfl
  have hresume (t : State) : (t.withClassifier c).resumePeer = t.resumePeer.withClassifier c := by
    unfold State.resumePeer
    rw [apply_ite (State.withClassifier · c)]
    rfl
  rw [State.settlePool, hjudge, hresume, State.settlePool]

/-- A classifier that has counted an unclaimed frame (R134). -/
def Classifier.countUnclaimed (c : Classifier) : Classifier := { c with unclaimed := saturatingSucc c.unclaimed }

/-- An unclaimed frame's cells are freed, it is counted, the pool is judged and the lease holder is told (R121,
R134). -/
theorem State.unclaimedFrame_eq (s : State) (f : Frame) :
    let freed := ((s.refundAccount none f).withClassifier s.classifier.countUnclaimed).settlePool
    s.unclaimedFrame f = s.lease.holder.elim freed (freed.raise · .unclaimed) := by
  intro freed
  have hcounted : (s.refundAccount none f).settlePool.withClassifier
      (s.refundAccount none f).settlePool.classifier.countUnclaimed = freed := by
    rw [State.settlePool_classifier, ← State.settlePool_withClassifier]
    rfl
  have htold (t : State) :
      (match t.lease.holder with
        | some h => t.raise h .unclaimed
        | none => t) = t.lease.holder.elim t (t.raise · .unclaimed) := by
    cases t.lease.holder <;> rfl
  have hlease : freed.lease = s.lease := State.settlePool_lease _
  calc
    s.unclaimedFrame f = freed.lease.holder.elim freed (freed.raise · .unclaimed) := hcounted ▸ htold _
    _ = s.lease.holder.elim freed (freed.raise · .unclaimed) := by rw [hlease]

section
variable {s : State} {address : Word} (f : Frame)

theorem State.classify_of_claimed (h : (scanFrom address 0 s.classifier.active).hosts ≠ 0#4) :
    s.classify f address =
      (s.scanned address).deliver f (scanFrom address 0 s.classifier.active).hosts (.fromTrunk address)
        (scanFrom address 0 s.classifier.active).first none := if_pos h

theorem State.classify_of_default (h : (scanFrom address 0 s.classifier.active).hosts = 0#4)
    (hdefault : s.params.defaultHostSet ≠ 0#4) :
    s.classify f address =
      (s.scanned address).deliver f s.params.defaultHostSet (.fromTrunk address) none none :=
  (if_neg (not_not_intro h)).trans (if_pos hdefault)

theorem State.classify_of_unclaimed (h : (scanFrom address 0 s.classifier.active).hosts = 0#4)
    (hdefault : s.params.defaultHostSet = 0#4) : s.classify f address = (s.scanned address).unclaimedFrame f :=
  (if_neg (not_not_intro h)).trans (if_neg (not_not_intro hdefault))

end

/-- Settles O29: what the scan leaves of each entry, what it collects from them, and the delivery of R121 by the set it
found. -/
theorem lookup : Obligations.Lookup := by
  intro s f address i a q l r hit reached scanned
  have hhit (e : ActiveEntry) : hit e ↔ e.entry.hit address = true := (e.entry.hit_iff address).symm
  have hreached (j : Nat) : reached j ↔ scanReaches address l j = true := by
    simp only [reached, hhit, scanReaches_iff]
  have hentry : r.entries[i]? = _ := scanFrom_entries_getElem? address 0 l i
  refine ⟨fun ha hcounts => ?counted, fun ha hleft => ?left, ?hosts, ?first, State.classify_of_claimed f,
    State.classify_of_default f, fun hempty hdefault => ?unclaimed⟩
  case counted =>
    rw [hhit, hreached, ← Bool.and_eq_true] at hcounts
    rw [hentry, ha, Option.map_some, if_pos hcounts]
    rfl
  case left =>
    rw [hhit, hreached, ← Bool.and_eq_true] at hleft
    rw [hentry, ha, Option.map_some, if_neg hleft]
  case hosts =>
    simp only [hhit, hreached]
    refine (scanFrom_hosts_has address 0 l q).trans ⟨?_, ?_⟩
    · rintro ⟨j, e, he, hfound⟩
      exact ⟨j, (List.getElem?_eq_some_iff.mp he).1, e, he, hfound⟩
    · rintro ⟨j, -, e, he, hfound⟩
      exact ⟨j, e, he, hfound⟩
  case first =>
    have hfirst : r.first = l.findIdx? (·.entry.hit address) := by simp [r, scanFrom_first]
    simp only [hhit]
    rw [hfirst, findIdx?_eq_some_iff_take]
  case unclaimed =>
    rw [State.classify_of_unclaimed f hempty hdefault, State.unclaimedFrame_eq]
    show s.lease.holder.elim _ _ = _
    cases s.lease.holder <;> rfl

end Machine
end Sys2Proof
end

section
/-! SUPPORT. The commands that edit the address tables (spec/07): each is judged on the lease and changes the
classifier, in which a transaction has no part (R127, R128, R130, R131, R159). -/

namespace Sys2Proof.Machine

/-- A management command on a ready port is judged on the lease and acts on the state as it stands (R159). -/
theorem State.takeCommand_ifHolder {s : State} {p : Port} (h : s.Ready p) (n : Nat) {act : State → Taken}
    (hfall : ∀ header, act (s.modPort p (·.fall header)) = (act s).modPort p (·.fall header)) :
    s.takeCommand p n (fun t => t.ifHolder p (act t)) =
      if s.lease.holder ≠ some p then s.answered p n .notHolder [] s else s.answeredBy p n (act s) := by
  rw [State.takeCommand_answeredBy h n fun header => by rw [hfall, State.ifHolder_modPort]]
  by_cases hholder : s.lease.holder = some p
  · rw [State.ifHolder_of_holder hholder, if_neg (not_not_intro hholder)]
  · rw [State.ifHolder_of_not_holder hholder, if_pos hholder, State.answeredBy_answers]

theorem State.tableWrite_fall (s : State) (p : Port) (header : List Byte) (index : Nat) (address mask : Word)
    (hosts : HostSet) (stop : Bool) :
    (s.modPort p (·.fall header)).tableWrite index address mask hosts stop =
      (s.tableWrite index address mask hosts stop).modPort p (·.fall header) := by
  unfold State.tableWrite
  split <;> rfl

theorem State.tableClear_fall (s : State) (p : Port) (header : List Byte) (index : Nat) :
    (s.modPort p (·.fall header)).tableClear index = (s.tableClear index).modPort p (·.fall header) := by
  unfold State.tableClear
  split <;> rfl

theorem State.tableCommit_eq (s : State) :
    s.tableCommit =
      if s.classifier.dirty = false then s
      else State.raiseAll { s with classifier := s.classifier.commit } .tableSwapped := by
  unfold State.tableCommit
  cases s.classifier.dirty <;> rfl

theorem State.tableCommit_fall (s : State) (p : Port) (header : List Byte) :
    (s.modPort p (·.fall header)).tableCommit = s.tableCommit.modPort p (·.fall header) := by
  rw [State.tableCommit_eq, State.tableCommit_eq, apply_ite (State.modPort · p _),
    ← (PoolBlind.fall header).raiseAll]
  rfl

/-- The two tests of TABLE WRITE on the holder's port (R127). -/
theorem State.tableWrite_eq (s : State) (index : Nat) (address mask : Word) (hosts : HostSet) (stop : Bool) :
    s.tableWrite index address mask hosts stop =
      if 31 < index ∨ hosts = 0#4 then s.answers .badArg
      else
        { state :=
            { s with
              classifier :=
                s.classifier.edit index
                  { inUse := true, address := address, mask := mask, hosts := hosts, stop := stop } }
          result := .ok } := by
  have htest : (index < Config.tableEntries ∧ hosts ≠ 0#4) ↔ ¬(31 < index ∨ hosts = 0#4) := by
    rw [not_or, Nat.not_lt, ← Nat.lt_succ_iff]
    rfl
  rw [State.tableWrite, if_congr htest rfl rfl, ite_not]

theorem State.tableClear_eq (s : State) (index : Nat) :
    s.tableClear index =
      if 31 < index then s.answers .badArg
      else { state := { s with classifier := s.classifier.edit index .unused }, result := .ok } := by
  have htest : index < Config.tableEntries ↔ ¬31 < index := by
    rw [Nat.not_lt, ← Nat.lt_succ_iff]
    rfl
  rw [State.tableClear, if_congr htest rfl rfl, ite_not]

/-- Settles O25: each of the four is judged on the lease first (R159), then on its arguments or the dirty flag. -/
theorem tableCommands : Obligations.TableCommands := by
  intro s p index address mask hosts flags hready
  refine ⟨congrArg Host.Outcome.next ?write, congrArg Host.Outcome.next ?clear, congrArg Host.Outcome.next ?commit,
    congrArg Host.Outcome.next ?revert⟩
  case write =>
    refine (State.takeCommand_ifHolder hready 7 fun header => s.tableWrite_fall p header ..).trans ?_
    rw [State.tableWrite_eq, State.answeredBy_ite]
    rfl
  case clear =>
    refine (State.takeCommand_ifHolder hready 1 fun header => s.tableClear_fall p header _).trans ?_
    rw [State.tableClear_eq, State.answeredBy_ite]
    rfl
  case commit =>
    refine (State.takeCommand_ifHolder hready 0 (act := fun t => { state := t.tableCommit, result := .ok })
      fun header => by rw [State.tableCommit_fall]; rfl).trans ?_
    rw [State.tableCommit_eq]
    split_ifs <;> rfl
  case revert =>
    exact State.takeCommand_ifHolder hready 0
      (act := fun t => { state := { t with classifier := t.classifier.revert }, result := .ok }) fun _ => rfl

end Sys2Proof.Machine
end

section
/-! SUPPORT. The commands on the receive and completion lists (spec/08): what each does on an empty list and with a head
record, the data phase of READ FRAME, and the reference that RELEASE RECORD drops. -/

namespace Sys2Proof.Machine

@[simp] theorem State.rx_fall (s : State) (p q : Port) (header : List Byte) :
    ((s.modPort p (·.fall header)).port q).rx = (s.port q).rx :=
  State.read_fall (g := PortState.rx) (fun _ => rfl) s p q

@[simp] theorem State.cpl_fall (s : State) (p q : Port) (header : List Byte) :
    ((s.modPort p (·.fall header)).port q).cpl = (s.port q).cpl :=
  State.read_fall (g := PortState.cpl) (fun _ => rfl) s p q

/-! ### A dropped reference -/

@[simp] theorem State.frame?_modPort (s : State) (p : Port) (f : PortState → PortState) (n : Nat) :
    (s.modPort p f).frame? n = s.frame? n := rfl

theorem State.putFrame_modPort (s : State) (p : Port) (edit : PortState → PortState) (n : Nat) (f : Frame) :
    (s.modPort p edit).putFrame n f = (s.putFrame n f).modPort p edit := rfl

theorem State.dropFrame_modPort (s : State) (p : Port) (edit : PortState → PortState) (n : Nat) :
    (s.modPort p edit).dropFrame n = (s.dropFrame n).modPort p edit := rfl

theorem State.modPort_ite (c : Prop) [Decidable c] (s t : State) (p : Port) (edit : PortState → PortState) :
    (if c then s else t).modPort p edit = if c then s.modPort p edit else t.modPort p edit :=
  apply_ite (State.modPort · p edit) ..

@[simp] theorem State.lowestHolder_fall (s : State) (p : Port) (header : List Byte) (n : Nat) :
    (s.modPort p (·.fall header)).lowestHolder n = s.lowestHolder n := by
  simp only [State.lowestHolder, State.rx_fall]

theorem State.movePayment_fall (s : State) (p : Port) (header : List Byte) (a b : Port) (k : Nat) :
    (s.modPort p (·.fall header)).movePayment a b k = (s.movePayment a b k).modPort p (·.fall header) := by
  unfold State.movePayment
  rw [s.modPort_fall p a header fun _ => rfl, State.modPort_fall _ p b header fun _ => rfl]

/-- What a dropped reference changes is no port's transaction, nor does it depend on one. -/
theorem State.dropReference_fall (s : State) (p q : Port) (header : List Byte) (n : Nat) :
    (s.modPort p (·.fall header)).dropReference q n = (s.dropReference q n).modPort p (·.fall header) := by
  simp only [State.dropReference, State.frame?_modPort, State.lowestHolder_fall, State.returnFrames_fall,
    State.movePayment_fall, State.putFrame_modPort, State.dropFrame_modPort]
  cases s.frame? n with
  | none => rfl
  | some f =>
    cases s.lowestHolder n <;> simp only [State.modPort_ite]

/-- A change of a port beside its receive list leaves every receive list as it was. -/
theorem State.rx_modPort {edit : PortState → PortState} (hedit : ∀ ps, (edit ps).rx = ps.rx) (s : State)
    (p q : Port) : ((s.modPort p edit).port q).rx = (s.port q).rx := by
  rw [State.port_modPort]
  split
  · exact hedit _
  · rfl

@[simp] theorem State.returnFrames_rx (s : State) (p q : Port) (l : List Frame) :
    ((s.returnFrames p l).port q).rx = (s.port q).rx :=
  State.rx_modPort (edit := fun ps => { ps with holdings := ps.holdings - cellsOf l }) (fun _ => rfl) s p q

@[simp] theorem State.movePayment_rx (s : State) (p q r : Port) (k : Nat) :
    ((s.movePayment p q k).port r).rx = (s.port r).rx := by
  unfold State.movePayment
  rw [State.rx_modPort, State.rx_modPort] <;> exact fun _ => rfl

/-- A dropped reference leaves every receive list as it was. -/
@[simp] theorem State.dropReference_rx (s : State) (p q : Port) (n : Nat) :
    ((s.dropReference p n).port q).rx = (s.port q).rx := by
  obtain ⟨-, h⟩ | ⟨f, -, ⟨-, h⟩ | ⟨heir, -, -, h⟩ | h⟩ := s.dropReference_cases p n <;> rw [h]
  · exact State.returnFrames_rx ..
  · exact State.movePayment_rx ..
  · rfl

/-- The cells of one frame come back to the pool (R4). -/
theorem State.returnFrames_singleton (s : State) (p : Port) (f : Frame) :
    s.returnFrames p [f] =
      { s.modPort p (fun ps => { ps with holdings := ps.holdings - (f.length + 63) / 64 }) with
        pool :=
          { s.pool with free := s.pool.free + (f.length + 63) / 64, freeCells := s.pool.freeCells ++ f.cells } } := by
  have hlist : [f].flatMap Frame.cells = f.cells := List.flatMap_singleton ..
  unfold State.returnFrames
  rw [hlist]
  rfl

/-- A dropped reference by the number of those left: the frame ends with its last one; else the heir pays when the payer
lets go (R14). -/
theorem State.dropReference_eq {s : State} {p y z : Port} {n left : Nat} {f : Frame} (hf : s.frame? n = some f)
    (hrefs : f.refs = some (left + 1)) (hpayer : f.payer = some y)
    (hheir : left ≠ 0 → y = p → s.lowestHolder n = some z) :
    s.dropReference p n =
      if left = 0 then (s.returnFrames y [f]).dropFrame n
      else
        (if y = p then s.movePayment p z f.cellCount else s).putFrame n
          { f with refs := some left, payer := if y = p then some z else some y } := by
  have hleft : f.refs.getD 0 - 1 = left := by rw [hrefs]; rfl
  have hpays : f.payer = some p ↔ y = p := by rw [hpayer, Option.some_inj]
  simp only [State.dropReference, hf, hleft, hpays]
  by_cases hzero : left = 0
  · rw [if_pos hzero, if_pos hzero, hpayer]
    rfl
  · rw [if_neg hzero, if_neg hzero]
    by_cases hy : y = p
    · simp only [if_pos hy, hheir hzero hy]
    · simp only [if_neg hy, ← hpayer]

/-! ### RELEASE RECORD -/

/-- The head record leaves p's list, and rest stays (R141). -/
def State.keepRecords (s : State) (p : Port) (rest : List RxRecord) : State :=
  s.modPort p fun ps => { ps with rx := { ps.rx with records := rest } }

@[simp] theorem State.keepRecords_records (s : State) (p q : Port) (rest : List RxRecord) :
    ((s.keepRecords p rest).port q).rx.records = if q = p then rest else (s.port q).rx.records := by
  unfold State.keepRecords
  rw [State.port_modPort]
  split <;> rfl

theorem State.keepRecords_fall (s : State) (p : Port) (header : List Byte) (rest : List RxRecord) :
    (s.modPort p (·.fall header)).keepRecords p rest = (s.keepRecords p rest).modPort p (·.fall header) :=
  s.modPort_fall p p header fun _ => rfl

theorem PortState.examineLow_fall (ps : PortState) (header : List Byte) :
    (ps.fall header).examineLow = ps.examineLow.fall header := by
  unfold PortState.examineLow
  rw [apply_ite (PortState.fall · header)]
  rfl

theorem State.releaseRecord_empty {s : State} {p : Port} (h : (s.port p).rx.records = []) :
    s.releaseRecord p = s.answers .empty := by
  unfold State.releaseRecord
  rw [h]

theorem State.releaseRecord_head {s : State} {p : Port} {r : RxRecord} {rest : List RxRecord}
    (h : (s.port p).rx.records = r :: rest) :
    s.releaseRecord p =
      { state := (((s.keepRecords p rest).dropReference p r.frame).settlePool).modPort p (·.examineLow)
        result := .ok } := by
  unfold State.releaseRecord
  rw [h]
  rfl

theorem State.releaseRecord_fall (s : State) (p : Port) (header : List Byte) :
    (s.modPort p (·.fall header)).releaseRecord p = (s.releaseRecord p).modPort p (·.fall header) := by
  cases h : (s.port p).rx.records with
  | nil =>
    rw [State.releaseRecord_empty h, State.releaseRecord_empty (by rwa [State.rx_fall])]
    rfl
  | cons r rest =>
    rw [State.releaseRecord_head h, State.releaseRecord_head (by rwa [State.rx_fall]), State.keepRecords_fall,
      State.dropReference_fall, State.settlePool_fall,
      State.modPort_fall _ p p header fun ps => ps.examineLow_fall header]
    rfl

/-- The marks are examined against the list that the release has left (R141). -/
theorem State.releaseRecord_marks (s : State) (p : Port) (rest : List RxRecord) (n : Nat) :
    (((s.keepRecords p rest).dropReference p n).settlePool).modPort p (·.examineLow) =
      (((s.keepRecords p rest).dropReference p n).settlePool).modPort p fun ps =>
        if ps.rx.markState = .above ∧ rest.length ≤ ps.rx.low then
          { ps with rx := { ps.rx with markState := .below }, events := ps.events.raise .rxLow }
        else ps := by
  have hrecords : ((((s.keepRecords p rest).dropReference p n).settlePool).port p).rx.records = rest := by
    rw [State.settlePool_rx, State.dropReference_rx, State.keepRecords_records, if_pos rfl]
  refine State.modPort_congr ?_
  unfold PortState.examineLow
  rw [hrecords]
  rfl

theorem exec_releaseRecord_ready {s : State} {p : Port} (h : s.Ready p) :
    exec (.releaseRecord p) s = .next (s.answeredBy p 0 (s.releaseRecord p)) :=
  congrArg Host.Outcome.next (State.takeCommand_answeredBy h 0 (s.releaseRecord_fall p))

/-- Settles O19: EMPTY without a record; with one, the reference is dropped by the count left and the payer (R14), the
pool is judged, and the marks are examined. -/
theorem releaseRecord : Obligations.ReleaseRecord := by
  intro s p r rest f left y z hready
  rw [exec_releaseRecord_ready hready]
  refine ⟨fun hempty => ?_, fun hhead hframe hrefs hpayer hheir => ?_⟩
  · rw [State.releaseRecord_empty hempty, State.answeredBy_answers]
  · have hlowest : left ≠ 0 → y = p → (s.keepRecords p rest).lowestHolder r.frame = some z := by
      simpa only [State.lowestHolder, State.keepRecords_records] using hheir
    have hdrop := State.dropReference_eq (s := s.keepRecords p rest) (n := r.frame) hframe hrefs hpayer hlowest
    rw [State.releaseRecord_head hhead, State.releaseRecord_marks, hdrop, State.returnFrames_singleton]
    split_ifs <;> rfl

/-! ### READ FRAME -/

theorem State.readFrame_empty {s : State} {p : Port} (h : (s.port p).rx.records = []) (offset : Nat) :
    s.readFrame p offset = { state := s, result := .empty, phase := .read none offset } := by
  unfold State.readFrame
  rw [h]

theorem State.readFrame_head {s : State} {p : Port} {r : RxRecord} {rest : List RxRecord}
    (h : (s.port p).rx.records = r :: rest) (offset : Nat) :
    s.readFrame p offset = { state := s, result := .ok, phase := .read (some (s.payloadOf r)) offset } := by
  unfold State.readFrame
  rw [h]

theorem State.payloadOf_stored {s : State} {r : RxRecord} {f : Frame} (h : s.frame? r.frame = some f) :
    s.payloadOf r = f.payload := by
  unfold State.payloadOf
  rw [h]

theorem State.readFrame_fall (s : State) (p : Port) (header : List Byte) (offset : Nat) :
    (s.modPort p (·.fall header)).readFrame p offset = (s.readFrame p offset).modPort p (·.fall header) := by
  unfold State.readFrame
  rw [State.rx_fall]
  split <;> rfl

theorem exec_readFrame_ready {s : State} {p : Port} (h : s.Ready p) (offset : Word) :
    exec (.readFrame p offset) s = .next (s.answeredBy p 2 (s.readFrame p offset.toNat)) :=
  congrArg Host.Outcome.next (State.takeCommand_answeredBy h 2 fun header => s.readFrame_fall p header _)

section
variable {s : State} {p : Port} {r : Result} {payload : Option (List Byte)} {n : Nat}

theorem exec_readFrameByte_read (hr : s.resetAsserted = false) (ht : (s.port p).txn = .opened r (.read payload n)) :
    exec (.readFrameByte p) s = .next (s.modPort p (·.readByte r payload n)) := by
  simp only [exec, execReadFrameByte, hr, State.byteOut, ht]
  rfl

theorem exec_appendDataByte_read (hr : s.resetAsserted = false) (ht : (s.port p).txn = .opened r (.read payload n))
    (b : Byte) : exec (.appendDataByte p b) s = .next (s.modPort p (·.readByte r payload n)) := by
  simp only [exec, execAppendDataByte, hr, State.byteIn, ht]
  rfl

end

/-- A byte of a payload: the one at the position, or 0x00 and SHORT past the end (R140). -/
theorem PortState.readByte_some (ps : PortState) (r : Result) (payload : List Byte) (n : Nat) :
    ps.readByte r (some payload) n =
      { ps with
        txn := .opened (if n < payload.length then r else .short) (.read (some payload) (n + 1))
        out := ps.out ++ [payload.getD n 0#8] } := by
  unfold PortState.readByte
  by_cases h : n < payload.length
  · simp [h]
  · simp [h]

/-- A byte without a record is 0x00 and keeps the result (R140). -/
theorem PortState.readByte_none (ps : PortState) (r : Result) (n : Nat) :
    ps.readByte r none n = { ps with txn := .opened r (.read none (n + 1)), out := ps.out ++ [0#8] } := rfl

/-- Settles O17: what the command fixes on an empty list and with a head record, and a byte of its data phase with and
without a payload, the data in ignored. -/
theorem readFrame : Obligations.ReadFrame := by
  intro s p offset r rest f q payload any n b
  refine ⟨fun hready hempty => ?_, fun hready hhead hframe => ?_, fun hreset htxn => ?_, fun hreset htxn => ?_,
    fun hreset htxn => ?_⟩
  · rw [exec_readFrame_ready hready, State.readFrame_empty hempty]
    rfl
  · rw [exec_readFrame_ready hready, State.readFrame_head hhead, State.payloadOf_stored hframe]
    rfl
  · simp only [exec_readFrameByte_read hreset htxn, PortState.readByte_some]
  · simp only [exec_readFrameByte_read hreset htxn, PortState.readByte_none]
  · rw [exec_appendDataByte_read hreset htxn, exec_readFrameByte_read hreset htxn]

/-! ### SET MARKS and TAKE COMPLETION -/

theorem State.setMarks_fall (s : State) (p : Port) (header : List Byte) (high low : Nat) :
    (s.modPort p (·.fall header)).setMarks p high low = (s.setMarks p high low).modPort p (·.fall header) := by
  unfold State.setMarks
  rw [s.modPort_fall p p header fun _ => rfl]
  split <;> rfl

theorem exec_setMarks_ready {s : State} {p : Port} (h : s.Ready p) (high low : Byte) :
    exec (.setMarks p high low) s = .next (s.answeredBy p 2 (s.setMarks p high.toNat low.toNat)) :=
  congrArg Host.Outcome.next (State.takeCommand_answeredBy h 2 fun header => s.setMarks_fall p header _ _)

theorem completionReply_eq (c : CplRecord) :
    completionReply c =
      [c.tag, c.outcome.code, ((c.sets.map (·.1)).getD 0#4).zeroExtend 8,
        ((c.sets.map (·.2)).getD 0#4).zeroExtend 8] := by
  unfold completionReply
  cases c.sets <;> rfl

theorem State.takeCompletion_empty {s : State} {p : Port} (h : (s.port p).cpl.records = []) :
    s.takeCompletion p = s.answers .empty (zeros 4) := by
  unfold State.takeCompletion
  rw [h]

theorem State.takeCompletion_head {s : State} {p : Port} {c : CplRecord} {rest : List CplRecord}
    (h : (s.port p).cpl.records = c :: rest) :
    s.takeCompletion p =
      { state := s.modPort p fun ps => { ps with cpl := { ps.cpl with records := rest } }
        result := .ok, reply := completionReply c } := by
  unfold State.takeCompletion
  rw [h]

theorem State.takeCompletion_fall (s : State) (p : Port) (header : List Byte) :
    (s.modPort p (·.fall header)).takeCompletion p = (s.takeCompletion p).modPort p (·.fall header) := by
  cases h : (s.port p).cpl.records with
  | nil =>
    rw [State.takeCompletion_empty h, State.takeCompletion_empty (by rwa [State.cpl_fall])]
    rfl
  | cons c rest =>
    rw [State.takeCompletion_head h, State.takeCompletion_head (by rwa [State.cpl_fall]),
      s.modPort_fall p p header fun _ => rfl]
    rfl

theorem exec_takeCompletion_ready {s : State} {p : Port} (h : s.Ready p) :
    exec (.takeCompletion p) s = .next (s.answeredBy p 0 (s.takeCompletion p)) :=
  congrArg Host.Outcome.next (State.takeCommand_answeredBy h 0 (s.takeCompletion_fall p))

/-- Settles O18: the ranges of R142 decide SET MARKS, and the completion list decides TAKE COMPLETION (R147). -/
theorem marksAndCompletions : Obligations.MarksAndCompletions := by
  intro s p high low c rest hready
  rw [exec_setMarks_ready hready, exec_takeCompletion_ready hready]
  refine ⟨congrArg Host.Outcome.next ?marks, fun hempty => ?empty, fun hhead => ?head⟩
  case marks =>
    unfold State.setMarks
    rw [State.answeredBy_ite]
    rfl
  case empty => rw [State.takeCompletion_empty hempty, State.answeredBy_answers]
  case head =>
    rw [State.takeCompletion_head hhead, completionReply_eq]
    rfl

end Sys2Proof.Machine
end

section
/-! SUPPORT. The configuration lease (spec/09): what LEASE ACQUIRE, LEASE RENEW and LEASE WITHDRAW do on a ready port
(R152, R153, R156). -/

namespace Sys2Proof.Machine

/-- The first case of R152: the lease is FREE. -/
theorem State.acquire_free {s : State} (h : s.lease.holder = none) (p : Port) (wait : Bool) :
    s.acquire p wait =
      { state := State.startLeaseTimer { s with lease := { s.lease with holder := some p } }
        result := .ok, reply := leaseReply p 0 } := by
  unfold State.acquire
  rw [h]

/-- The other cases of R152, with the wait option judged before the waiting list: without it the answer is HELD whether
or not the port waits. -/
theorem State.acquire_held {s : State} {h : Port} (hheld : s.lease.holder = some h) (p : Port) (wait : Bool) :
    s.acquire p wait =
      if h = p then { state := s.startLeaseTimer, result := .ok, reply := leaseReply p 0 }
      else if wait = false then s.answers .held (leaseReply h 0)
      else if p ∈ s.lease.waiting then s.answers .queued (leaseReply h (s.lease.position p))
      else
        { state := { s with lease := { s.lease with waiting := s.lease.waiting ++ [p] } }
          result := .queued, reply := leaseReply h (s.lease.waiting.length + 1) } := by
  unfold State.acquire
  rw [hheld]
  cases wait
  · exact if_congr Iff.rfl rfl (ite_self _)
  · rfl

theorem Lease.position_eq (l : Lease) (p : Port) : l.position p = l.waiting.idxOf p + 1 := rfl

theorem State.acquire_fall (s : State) (p q : Port) (header : List Byte) (wait : Bool) :
    (s.modPort p (·.fall header)).acquire q wait = (s.acquire q wait).modPort p (·.fall header) := by
  cases h : s.lease.holder with
  | none =>
    rw [State.acquire_free h, State.acquire_free (State.modPort_lease s p (·.fall header) ▸ h)]
    rfl
  | some held =>
    rw [State.acquire_held h, State.acquire_held (State.modPort_lease s p (·.fall header) ▸ h), State.modPort_lease]
    split_ifs <;> rfl

theorem State.withdraw_fall (s : State) (p q : Port) (header : List Byte) :
    (s.modPort p (·.fall header)).withdraw q = (s.withdraw q).modPort p (·.fall header) := by
  unfold State.withdraw
  rw [State.modPort_lease]
  split <;> rfl

theorem exec_leaseAcquire_ready {s : State} {p : Port} (h : s.Ready p) (options : Byte) :
    exec (.leaseAcquire p options) s = .next (s.answeredBy p 1 (s.acquire p (options.getLsbD 0))) :=
  congrArg Host.Outcome.next (State.takeCommand_answeredBy h 1 fun header => s.acquire_fall p p header _)

theorem exec_leaseRenew_ready {s : State} {p : Port} (h : s.Ready p) :
    exec (.leaseRenew p) s =
      .next
        (if s.lease.holder ≠ some p then s.answered p 0 .notHolder [] s
        else s.answered p 0 .ok [] s.startLeaseTimer) :=
  congrArg Host.Outcome.next
    (State.takeCommand_ifHolder h 0 (act := fun t => { state := t.startLeaseTimer, result := .ok }) fun _ => rfl)

theorem exec_leaseWithdraw_ready {s : State} {p : Port} (h : s.Ready p) :
    exec (.leaseWithdraw p) s = .next (s.answeredBy p 0 (s.withdraw p)) :=
  congrArg Host.Outcome.next (State.takeCommand_answeredBy h 0 (s.withdraw_fall p p))

/-- Settles O20: LEASE ACQUIRE on a FREE and on a held lease, then the one test of LEASE RENEW and of LEASE WITHDRAW. -/
theorem leaseRequests : Obligations.LeaseRequests := by
  intro s p h options hready
  rw [exec_leaseAcquire_ready hready, exec_leaseRenew_ready hready, exec_leaseWithdraw_ready hready]
  refine ⟨fun hfree => ?free, fun hheld => congrArg Host.Outcome.next ?held, congrArg Host.Outcome.next ?renew,
    congrArg Host.Outcome.next ?withdraw⟩
  case free =>
    rw [State.acquire_free hfree]
    rfl
  case held =>
    rw [State.acquire_held hheld]
    simp only [State.answeredBy_ite, Lease.position_eq]
    rfl
  case renew =>
    rw [ite_not]
    rfl
  case withdraw =>
    unfold State.withdraw
    rw [State.answeredBy_ite]
    rfl

end Sys2Proof.Machine
end

section
/-! SUPPORT. The device parameters (spec/09 sections 9.7 and 9.8): their ranges, and SET PARAMETER (R160,
R161). -/

namespace Sys2Proof.Machine

/-! ### The parameters by number -/

/-- A number is one of the fifteen of R160 or lies above them. -/
theorem parameterNumber_cases {P : Nat → Prop} (numbered : ∀ n < 15, P n) (above : ∀ k, P (k + 15))
    (n : Nat) : P n := by
  obtain hlt | hle := Nat.lt_or_ge n 15
  · exact numbered n hlt
  · obtain ⟨k, rfl⟩ := Nat.exists_eq_add_of_le' hle
    exact above k

/-- The ranges of R160 as the table that a parameter number indexes. -/
theorem paramRange_eq (n : Nat) :
    paramRange n =
      [(0, 255), (1, 100), (1, 7), (2, 15), (10, 1000), (1, 7), (2, 500), (1, 15), (0, 50), (10, 10000), (0, 10000),
        (9, 256), (0, 15), (10, 10000), (0, 256)][n]? := by
  induction n using parameterNumber_cases with
  | numbered n hlt => interval_cases n <;> rfl
  | above k => rfl

theorem paramRange_eq_none {n : Nat} (h : 14 < n) : paramRange n = none := by
  rw [paramRange_eq]
  exact List.getElem?_eq_none h

theorem le_of_paramRange_eq_some {n : Nat} {range : Nat × Nat} (h : paramRange n = some range) : n ≤ 14 := by
  by_contra hn
  rw [paramRange_eq_none (Nat.lt_of_not_le hn)] at h
  contradiction

/-- The fifteen parameters as the list that a number indexes: reading one is reading the list, writing one is setting
its place. -/
def Params.values (q : Params) : List Nat :=
  [q.station, q.tHello, q.nUp, q.nLoss, q.tHold, q.w, q.tAck, q.nRetry, q.tDly, q.tHalt, q.tFlush, q.resume,
    q.defaultHosts, q.tLease, q.poolLow]

theorem Params.value?_eq (q : Params) (m : Nat) : q.value? m = q.values[m]? := by
  induction m using parameterNumber_cases with
  | numbered m hlt => interval_cases m <;> rfl
  | above k => rfl

theorem Params.values_write (q : Params) (n v : Nat) : (q.write n v).values = q.values.set n v := by
  induction n using parameterNumber_cases with
  | numbered n hlt => interval_cases n <;> rfl
  | above k => rfl

/-- A write changes the parameter of its number alone (R161). -/
theorem Params.value?_write (q : Params) {n : Nat} (h : n ≤ 14) (v m : Nat) :
    (q.write n v).value? m = if m = n then some v else q.value? m := by
  have hn : n < q.values.length := Nat.lt_succ_of_le h
  simp only [Params.value?_eq, Params.values_write, List.getElem?_set, if_pos hn, eq_comm]

/-! ### SET PARAMETER -/

theorem State.setParameter_badNumber (s : State) {n : Nat} (h : 14 < n) (v : Nat) :
    s.setParameter n v = s.answers .badArg := by
  simp only [State.setParameter, paramRange_eq_none h]

theorem State.setParameter_inTable {s : State} {n lo hi : Nat} (h : paramRange n = some (lo, hi)) (v : Nat) :
    s.setParameter n v =
      if lo ≤ v ∧ v ≤ hi then
        { state := State.afterParameter { s with params := s.params.write n v } n, result := .ok }
      else s.answers .badArg := by
  simp only [State.setParameter, h]

theorem State.afterParameter_eq (s : State) (n : Nat) :
    s.afterParameter n = if n = 14 then s.recordLevel else if n = 11 then s.resumePeer else s := by
  unfold State.afterParameter
  split
  · rfl
  · rfl
  · next h11 h14 => rw [if_neg h14, if_neg h11]

theorem State.afterParameter_fall (s : State) (p : Port) (header : List Byte) (n : Nat) :
    (s.modPort p (·.fall header)).afterParameter n = (s.afterParameter n).modPort p (·.fall header) := by
  rw [State.afterParameter_eq, State.afterParameter_eq, (PoolBlind.fall header).recordLevel,
    (PoolBlind.fall header).resumePeer]
  split_ifs <;> rfl

theorem State.setParameter_fall (s : State) (p : Port) (header : List Byte) (n v : Nat) :
    (s.modPort p (·.fall header)).setParameter n v = (s.setParameter n v).modPort p (·.fall header) := by
  have hafter := State.afterParameter_fall { s with params := s.params.write n v } p header n
  unfold State.setParameter
  split
  case h_1 => rfl
  case h_2 lo hi _ =>
    split_ifs
    · exact congrArg (fun t : State => ({ state := t, result := .ok } : Taken)) hafter
    · rfl

/-- The written parameter's effects at once (R15, R113), read on the state before the write: shared free does not
depend on the parameters. -/
theorem State.afterParameter_written (s : State) (n v : Nat) :
    let written : State := { s with params := s.params.write n v }
    written.afterParameter n =
      if n = 14 then
        { written with pool := { s.pool with level := if s.sharedFree < v then .below else .atOrAbove } }
      else if n = 11 ∧ s.engine.haltingPeer = true ∧ v ≤ s.sharedFree then
        { written with engine := { s.engine with haltingPeer := false, flowOwed := .go } }
      else written := by
  intro written
  rw [State.afterParameter_eq]
  by_cases h14 : n = 14
  · subst h14
    rfl
  · rw [if_neg h14, if_neg h14]
    by_cases h11 : n = 11
    · subst h11
      simp only [true_and]
      rfl
    · rw [if_neg h11, if_neg fun h => h11 h.1]

theorem exec_setParameter_ready {s : State} {p : Port} (h : s.Ready p) (number : Byte) (value : Word) :
    exec (.setParameter p number value) s =
      .next
        (if s.lease.holder ≠ some p then s.answered p 3 .notHolder [] s
        else s.answeredBy p 3 (s.setParameter number.toNat value.toNat)) :=
  congrArg Host.Outcome.next
    (State.takeCommand_ifHolder h 3 (act := fun t => t.setParameter number.toNat value.toNat)
      fun header => s.setParameter_fall p header _ _)

/-- Settles O23: the tests of R161 in order, on the lease, the number and the range, and the write with its effects. -/
theorem setParameter : Obligations.SetParameter := by
  intro s p number value lo hi m range hready
  have htable : paramRange number.toNat = range := paramRange_eq _
  rw [exec_setParameter_ready hready, ← htable]
  refine ⟨fun hother => ?other, fun hholder hnumber => ?badNumber, fun hholder hrange hout => ?outside,
    fun hholder hrange hlo hhi => ⟨Params.value?_write _ (le_of_paramRange_eq_some hrange) _ _, ?inside⟩⟩
  case other => rw [if_pos hother]
  case badNumber =>
    rw [if_neg (not_not_intro hholder), State.setParameter_badNumber s hnumber, State.answeredBy_answers]
  case outside =>
    rw [if_neg (not_not_intro hholder), State.setParameter_inTable hrange, if_neg (by omega), State.answeredBy_answers]
  case inside =>
    rw [if_neg (not_not_intro hholder), State.setParameter_inTable hrange, if_pos ⟨hlo, hhi⟩,
      State.afterParameter_written]
    rfl

end Sys2Proof.Machine
end

section
/-! SUPPORT. What a command or event can do, said once (spec/10 section 10.1, spec/11 section 11.2): an edit of a
transaction, the effect of a command taken on a port, a data-phase byte, an event of the trunk or a timer, or the RESET
pin. -/

namespace Sys2Proof.Machine

/-! ### Edits of a transaction -/

/-- A port with its transaction moved on: the fields that R165 to R167 speak of replaced, the others as they were. -/
def PortState.moved (r : Result) (x : Txn) (out reply : List Byte) (ps : PortState) : PortState :=
  { ps with prevResult := r, txn := x, out := out, reply := reply }

/-- From s to t the transaction of port p moves and nothing else (R165 to R167). -/
def TxnMoved (p : Port) (s t : State) : Prop :=
  ∃ r x out reply, t = s.modPort p (PortState.moved r x out reply)

/-- A change of p that is a move of its transaction as the port stands. -/
theorem txnMoved_modPort {s : State} {p : Port} {f : PortState → PortState}
    (h : f (s.port p) =
      (s.port p).moved (f (s.port p)).prevResult (f (s.port p)).txn (f (s.port p)).out (f (s.port p)).reply) :
    TxnMoved p s (s.modPort p f) :=
  ⟨_, _, _, _, State.modPort_congr h⟩

theorem TxnMoved.refl (p : Port) (s : State) : TxnMoved p s s := by
  simpa using txnMoved_modPort (s := s) (p := p) (f := fun ps => ps) rfl

theorem TxnMoved.trans {p : Port} {s t u : State} (h : TxnMoved p s t) (h' : TxnMoved p t u) : TxnMoved p s u := by
  obtain ⟨_, _, _, _, rfl⟩ := h
  obtain ⟨r, x, out, reply, rfl⟩ := h'
  exact ⟨r, x, out, reply, State.modPort_modPort _ _ _ _⟩

/-- What a moved transaction leaves of each port. -/
theorem TxnMoved.port {p : Port} {s t : State} (h : TxnMoved p s t) (q : Port) :
    t.port q = (s.port q).moved (t.port q).prevResult (t.port q).txn (t.port q).out (t.port q).reply := by
  obtain ⟨_, _, _, _, rfl⟩ := h
  rw [State.port_modPort]
  split <;> rfl

/-- What a moved transaction leaves of the part. -/
theorem TxnMoved.eq {p : Port} {s t : State} (h : TxnMoved p s t) : t = { s with ports := t.ports } := by
  obtain ⟨_, _, _, _, rfl⟩ := h
  rfl

theorem txnMoved_ignored (s : State) (p : Port) : TxnMoved p s (s.modPort p fun ps => { ps with txn := .ignored }) :=
  txnMoved_modPort rfl

theorem txnMoved_rise (s : State) (p : Port) : TxnMoved p s (s.modPort p (·.rise)) := txnMoved_modPort rfl

theorem txnMoved_shiftOut (s : State) (p : Port) (m : Nat) : TxnMoved p s (s.modPort p (·.shiftOut m)) :=
  txnMoved_modPort rfl

theorem txnMoved_readByte (s : State) (p : Port) (r : Result) (payload : Option (List Byte)) (n : Nat) :
    TxnMoved p s (s.modPort p (·.readByte r payload n)) := txnMoved_modPort rfl

theorem txnMoved_selectPort (s : State) (p : Port) : TxnMoved p s (s.selectPort p) := by
  unfold State.selectPort
  split
  · refine txnMoved_modPort ?_
    split <;> rfl
  · exact .refl p s

theorem txnMoved_releasePort (s : State) (p : Port) : TxnMoved p s (s.releasePort p) := by
  unfold State.releasePort
  split
  · exact .refl p s
  · exact txnMoved_rise s p

theorem txnMoved_takeBytes (s : State) (p : Port) (m : Nat) (act : State → Taken) :
    TxnMoved p (act s).state (s.takeBytes p m act) := by
  unfold State.takeBytes
  exact txnMoved_modPort rfl

/-- A command is not taken, and its transaction alone moves; or it acts on the state in which its transaction has begun
(R165, R166). -/
theorem State.takeCommand_cases (s : State) (p : Port) (n : Nat) (act : State → Taken) :
    TxnMoved p s (s.takeCommand p n act) ∨
      ∃ u, TxnMoved p s u ∧ TxnMoved p (act u).state (s.takeCommand p n act) := by
  unfold State.takeCommand
  split
  · exact .inl (txnMoved_ignored s p)
  · split
    · exact .inl (.refl p s)
    · exact .inr ⟨_, txnMoved_selectPort s p, txnMoved_takeBytes _ p _ act⟩
    · exact .inr ⟨_, (txnMoved_rise s p).trans (txnMoved_selectPort _ p), txnMoved_takeBytes _ p _ act⟩
    · exact .inr ⟨_, .refl p s, txnMoved_takeBytes _ p _ act⟩

/-! ### The bytes of a command -/

@[simp] theorem wordOf_octets16 (w : Word) : wordOf (w.extractLsb' 8 8) (w.extractLsb' 0 8) = w := by
  unfold wordOf
  rw [BitVec.extractLsb'_append_extractLsb'_eq_extractLsb' (by omega)]
  simp

/-- The row of a host command takes the command of its code with its argument bytes (R166, sections 11.2, 11.3). -/
theorem exec_eq_takeCommand {c : Instr} {p : Port} {code : Byte} (hp : c.port? = some p)
    (hcode : commandByte c = some code) (s : State) :
    exec c s = .next (s.takeCommand p (argumentBytes c).length (hostAct p code (argumentBytes c))) := by
  have word (f : Word → Host.Outcome State Fault Refusal) (w : Word) :
      f w = f (wordOf (w.extractLsb' 8 8) (w.extractLsb' 0 8)) := by
    rw [wordOf_octets16]
  cases c
  case ackEvents q w =>
    cases hp; cases hcode; exact word (fun w => .next (s.takeCommand p 2 (·.ackEvents p w))) w
  case setEventMask q w =>
    cases hp; cases hcode; exact word (fun w => .next (s.takeCommand p 2 (·.setEventMask p w))) w
  case openFrame q w =>
    cases hp; cases hcode; exact word (fun w => .next (s.takeCommand p 2 (·.openFrame p w.toNat))) w
  case commitTrunk q w cls tag options =>
    cases hp; cases hcode
    exact word (fun w => .next (s.takeCommand p 5 (·.commitTrunk p w cls tag options))) w
  case readFrame q w =>
    cases hp; cases hcode; exact word (fun w => .next (s.takeCommand p 2 (·.readFrame p w.toNat))) w
  case setQuota q port floor w =>
    cases hp; cases hcode
    exact word
      (fun w => .next (s.takeCommand p 4 fun t => t.ifHolder p (t.setQuota port.toNat floor.toNat w.toNat))) w
  case setParameter q number w =>
    cases hp; cases hcode
    exact word (fun w => .next (s.takeCommand p 3 fun t => t.ifHolder p (t.setParameter number.toNat w.toNat))) w
  case tableWrite q index address mask hosts flags =>
    cases hp; cases hcode
    exact (word (fun w => .next (s.takeCommand p 7 fun t => t.ifHolder p (t.tableWrite index.toNat w mask
      (hostSetArg hosts) (stopFlag flags)))) address).trans
      (word (fun w => .next (s.takeCommand p 7 fun t => t.ifHolder p (t.tableWrite index.toNat
        (wordOf (address.extractLsb' 8 8) (address.extractLsb' 0 8)) w (hostSetArg hosts) (stopFlag flags)))) mask)
  all_goals first
    | cases hcode; done
    | (cases hp; cases hcode; rfl)

@[simp] theorem octets16_wordOf (h l : Byte) : octets16 (wordOf h l) = [h, l] := by
  unfold octets16 wordOf
  rw [BitVec.extractLsb'_append_eq_of_le (by omega), BitVec.extractLsb'_append_eq_of_add_le (by omega)]
  simp

/-- The codes of section 11.2, by their number of argument bytes. -/
theorem commandArgs_eq_some {code : Byte} {n : Nat} (h : commandArgs code = some n) :
    (n = 0 ∧ code ∈ [0x00#8, 0x01#8, 0x02#8, 0x06#8, 0x07#8, 0x11#8, 0x14#8, 0x20#8, 0x22#8, 0x23#8, 0x31#8, 0x32#8,
        0x33#8, 0x46#8, 0x47#8, 0x48#8, 0x49#8]) ∨
      (n = 1 ∧ code ∈ [0x15#8, 0x30#8, 0x42#8, 0x44#8]) ∨
      (n = 2 ∧ code ∈ [0x03#8, 0x04#8, 0x05#8, 0x10#8, 0x21#8, 0x45#8]) ∨ (n = 3 ∧ code = 0x41#8) ∨
      (n = 4 ∧ code ∈ [0x13#8, 0x40#8]) ∨ (n = 5 ∧ code = 0x12#8) ∨ (n = 7 ∧ code = 0x43#8) := by
  revert n code
  suffices ∀ code : Byte, ∀ n ∈ commandArgs code, _ from fun {code n} h => this code n h
  decide

/-! ### The effect of a taken command -/

/-- What a command taken on p in s leaves, apart from its transaction; managed for the management commands (R159). -/
inductive CommandEffect (p : Port) (s : State) : Bool → State → Prop where
  | answered (managed : Bool) : CommandEffect p s managed s
  | ackEvents (named : BitVec 11) :
    CommandEffect p s false (s.modPort p fun ps => { ps with events := ps.events.acknowledge named })
  | setEventMask (mask : BitVec 11) :
    CommandEffect p s false (s.modPort p fun ps => { ps with events := ps.events.setMask mask })
  | setMarks (high low : Nat) (hhigh : 1 ≤ high) (hmax : high ≤ 32) (hlow : low < high) :
    CommandEffect p s false (s.modPort p fun ps => { ps with rx := { ps.rx with high := high, low := low } })
  | portReset : CommandEffect p s false (s.portReset p).state
  | openFrame (length : Nat) (hslot : (s.port p).slot = none) (hlength : 0 < length ∧ length ≤ 512)
    (hceiling : (s.port p).holdings + cellsFor length ≤ (s.port p).ceiling)
    (hfree : cellsFor length + s.reservedByOthers p ≤ s.pool.free) :
    CommandEffect p s false (s.openSlot p length (cellsFor length)).settlePool
  | commitTrunk (f : Frame) (address : Word) (cls tag options : Byte) (hslot : (s.port p).slot = some f)
    (hcount : s.transmitCount p < 16)
    (hplaces : notifyOption options = true → (s.port p).cpl.records.length + (s.port p).cpl.reserved < 16) :
    CommandEffect p s false (s.queueFrame p (f.committed address cls tag options) (notifyOption options))
  | commitLocal (f : Frame) (targets : HostSet) (cls tag options : Byte) (hslot : (s.port p).slot = some f)
    (hplaces : notifyOption options = true → (s.port p).cpl.records.length + (s.port p).cpl.reserved < 16) :
    CommandEffect p s false (s.deliverLocal p (f.submitted cls tag options) targets)
  | discardFrame (f : Frame) (hslot : (s.port p).slot = some f) :
    CommandEffect p s false ((s.modPort p fun ps => { ps with slot := none }).freeFrame p f)
  | cancel (tag : Byte) (f : Frame) (hf : (s.port p).queue.find? (·.hasTag tag) = some f) :
    CommandEffect p s false (s.cancelFrame p tag f)
  | releaseRecord (r : RxRecord) (rest : List RxRecord) (hrecords : (s.port p).rx.records = r :: rest) :
    CommandEffect p s false
      ((((s.keepRecords p rest).dropReference p r.frame).settlePool).modPort p (·.examineLow))
  | takeCompletion (r : CplRecord) (rest : List CplRecord) (hrecords : (s.port p).cpl.records = r :: rest) :
    CommandEffect p s false (s.modPort p fun ps => { ps with cpl := { ps.cpl with records := rest } })
  | acquireFree (hfree : s.lease.holder = none) :
    CommandEffect p s false (State.startLeaseTimer { s with lease := { s.lease with holder := some p } })
  | renew (hholder : s.lease.holder = some p) : CommandEffect p s false s.startLeaseTimer
  | wait (h : Port) (hheld : s.lease.holder = some h) (hother : h ≠ p) (hnew : p ∉ s.lease.waiting) :
    CommandEffect p s false { s with lease := { s.lease with waiting := s.lease.waiting ++ [p] } }
  | releaseLease (hholder : s.lease.holder = some p) : CommandEffect p s false (s.endHolding false)
  | withdraw :
    CommandEffect p s false { s with lease := { s.lease with waiting := s.lease.waiting.filter (· ≠ p) } }
  | setQuota (q : Port) (floor ceiling : Nat) (hholder : s.lease.holder = some p)
    (hfloor : floor ≤ 128 ∧ floor ≤ ceiling ∧ ceiling ≤ 512) (hsum : s.floorSumWith q floor ≤ 256) :
    CommandEffect p s true (s.modPort q fun ps => { ps with floor := floor, ceiling := ceiling }).settlePool
  | setParameter (number value lo hi : Nat) (hholder : s.lease.holder = some p)
    (hrange : paramRange number = some (lo, hi)) (hvalue : lo ≤ value ∧ value ≤ hi) :
    CommandEffect p s true (State.afterParameter { s with params := s.params.write number value } number)
  | editTable (index : Nat) (e : TableEntry) (hholder : s.lease.holder = some p) (hindex : index < 32) (he : e.Sound) :
    CommandEffect p s true { s with classifier := s.classifier.edit index e }
  | tableCommit (hholder : s.lease.holder = some p) : CommandEffect p s true s.tableCommit
  | tableRevert (hholder : s.lease.holder = some p) :
    CommandEffect p s true { s with classifier := s.classifier.revert }
  | trunkOn (hholder : s.lease.holder = some p) : CommandEffect p s true s.trunkOn
  | trunkOff (hholder : s.lease.holder = some p) : CommandEffect p s true s.trunkOff

section
variable (p : Port) (s : State)

theorem State.setMarks_effect (high low : Nat) : CommandEffect p s false (s.setMarks p high low).state := by
  unfold State.setMarks
  split
  case isTrue h => exact .setMarks high low h.1 h.2.1 h.2.2
  case isFalse => exact .answered _

theorem State.openFrame_effect (length : Nat) : CommandEffect p s false (s.openFrame p length).state := by
  rw [State.openFrame_eq]
  split_ifs with hslot hlength hceiling hfree
  case neg =>
    exact .openFrame length (not_not.mp hslot) (by omega) (not_lt.mp hceiling) (not_lt.mp hfree)
  all_goals exact .answered _

theorem State.commitTrunk_effect (address : Word) (cls tag options : Byte) :
    CommandEffect p s false (s.commitTrunk p address cls tag options).state := by
  cases hslot : (s.port p).slot with
  | none => rw [State.commitTrunk_closed hslot]; exact .answered _
  | some f =>
    rw [State.commitTrunk_open hslot]
    split_ifs with _ _ _ _ hcount hplaces
    case neg =>
      exact .commitTrunk f address cls tag options hslot (not_le.mp hcount) fun h => not_le.mp fun hfull =>
        hplaces ⟨h, hfull⟩
    all_goals exact .answered _

theorem State.commitLocal_effect (targets cls tag options : Byte) :
    CommandEffect p s false (s.commitLocal p targets cls tag options).state := by
  cases hslot : (s.port p).slot with
  | none => rw [State.commitLocal_closed hslot]; exact .answered _
  | some f =>
    rw [State.commitLocal_open hslot]
    split_ifs with _ _ hplaces
    case neg =>
      exact .commitLocal f _ cls tag options hslot fun h => not_le.mp fun hfull => hplaces ⟨h, hfull⟩
    all_goals exact .answered _

theorem State.discardFrame_effect : CommandEffect p s false (s.discardFrame p).state := by
  cases hslot : (s.port p).slot with
  | none => rw [State.discardFrame_closed hslot]; exact .answered _
  | some f => unfold State.discardFrame; rw [hslot]; exact .discardFrame f hslot

theorem State.cancel_effect (tag : Byte) : CommandEffect p s false (s.cancel p tag).state := by
  cases hf : (s.port p).queue.find? (·.hasTag tag) with
  | none => rw [State.cancel_not_waiting hf]; exact .answered _
  | some f => unfold State.cancel; rw [hf]; exact .cancel tag f hf

theorem State.releaseRecord_effect : CommandEffect p s false (s.releaseRecord p).state := by
  cases hr : (s.port p).rx.records with
  | nil => rw [State.releaseRecord_empty hr]; exact .answered _
  | cons r rest => rw [State.releaseRecord_head hr]; exact .releaseRecord r rest hr

theorem State.takeCompletion_effect : CommandEffect p s false (s.takeCompletion p).state := by
  cases hr : (s.port p).cpl.records with
  | nil => rw [State.takeCompletion_empty hr]; exact .answered _
  | cons r rest => rw [State.takeCompletion_head hr]; exact .takeCompletion r rest hr

theorem State.acquire_effect (wait : Bool) : CommandEffect p s false (s.acquire p wait).state := by
  cases hh : s.lease.holder with
  | none => rw [State.acquire_free hh]; exact .acquireFree hh
  | some h =>
    unfold State.acquire
    rw [hh]
    dsimp only
    split_ifs with hp hwaits hwait hwait
    · exact .renew (hp ▸ hh)
    · exact .answered _
    · exact .answered _
    · exact .wait h hh hp hwaits
    · exact .answered _

theorem State.withdraw_effect : CommandEffect p s false (s.withdraw p).state := by
  unfold State.withdraw
  split
  · exact .withdraw
  · exact .answered _

/-- A command judged on the lease has its effect for the holder alone (R159). -/
theorem State.ifHolder_effect {managed : Bool} {act : Taken}
    (h : s.lease.holder = some p → CommandEffect p s managed act.state) :
    CommandEffect p s managed (s.ifHolder p act).state := by
  unfold State.ifHolder
  split
  · exact h ‹_›
  · exact .answered _

theorem State.setQuota_effect (port floor ceiling : Nat) (hholder : s.lease.holder = some p) :
    CommandEffect p s true (s.setQuota port floor ceiling).state := by
  unfold State.setQuota
  split
  · exact .answered _
  · split_ifs with hrange hsum
    · exact .answered _
    · exact .setQuota _ floor ceiling hholder hrange (not_lt.mp hsum)
    · exact .answered _

theorem State.setParameter_effect (number value : Nat) (hholder : s.lease.holder = some p) :
    CommandEffect p s true (s.setParameter number value).state := by
  unfold State.setParameter
  split
  · exact .answered _
  · split_ifs with hvalue
    · exact .setParameter number value _ _ hholder ‹_› hvalue
    · exact .answered _

theorem TableEntry.unused_sound : TableEntry.unused.Sound := ⟨Bool.noConfusion, fun _ => rfl⟩

theorem State.tableWrite_effect (index : Nat) (address mask : Word) (hosts : HostSet) (stop : Bool)
    (hholder : s.lease.holder = some p) :
    CommandEffect p s true (s.tableWrite index address mask hosts stop).state := by
  unfold State.tableWrite
  split
  case isTrue h => exact .editTable index _ hholder h.1 ⟨fun _ => h.2, Bool.noConfusion⟩
  case isFalse => exact .answered _

theorem State.tableClear_effect (index : Nat) (hholder : s.lease.holder = some p) :
    CommandEffect p s true (s.tableClear index).state := by
  unfold State.tableClear
  split
  · exact .editTable index _ hholder ‹_› TableEntry.unused_sound
  · exact .answered _

theorem State.readParameter_state (number : Nat) : (s.readParameter number).state = s := by
  unfold State.readParameter
  split <;> rfl

theorem State.tableRead_state (shadow : Bool) (index : Nat) : (s.tableRead shadow index).state = s := by
  unfold State.tableRead
  repeat' split
  all_goals rfl

theorem State.peekRecord_state : (s.peekRecord p).state = s := by
  unfold State.peekRecord
  split <;> rfl

theorem State.readFrame_state (offset : Nat) : (s.readFrame p offset).state = s := by
  unfold State.readFrame
  split <;> rfl

end

/-- The effect of the command that a code and its argument bytes spell. -/
theorem hostAct_effect (p : Port) (s : State) {code : Byte} {args : List Byte}
    (h : commandArgs code = some args.length) :
    CommandEffect p s (isManagementCode code) (hostAct p code args s).state := by
  obtain ⟨hn, hc⟩ | ⟨hn, hc⟩ | ⟨hn, hc⟩ | ⟨hn, rfl⟩ | ⟨hn, hc⟩ | ⟨hn, rfl⟩ | ⟨hn, rfl⟩ := commandArgs_eq_some h
  · obtain rfl := List.length_eq_zero_iff.mp hn
    fin_cases hc
    · exact .answered _
    · exact .answered _
    · exact .answered _
    · exact .answered _
    · exact .portReset
    · exact .answered _
    · exact s.discardFrame_effect p
    · exact (s.peekRecord_state p).symm ▸ .answered _
    · exact s.releaseRecord_effect p
    · exact s.takeCompletion_effect p
    · exact s.ifHolder_effect p .renew
    · exact s.ifHolder_effect p .releaseLease
    · exact s.withdraw_effect p
    · exact s.ifHolder_effect p .tableCommit
    · exact s.ifHolder_effect p .tableRevert
    · exact s.ifHolder_effect p .trunkOn
    · exact s.ifHolder_effect p .trunkOff
  · obtain ⟨a, rfl⟩ := List.length_eq_one_iff.mp hn
    fin_cases hc
    · exact s.cancel_effect p a
    · exact s.acquire_effect p _
    · exact (s.readParameter_state _).symm ▸ .answered _
    · exact s.ifHolder_effect p (s.tableClear_effect p _)
  · obtain ⟨a, b, rfl⟩ := List.length_eq_two.mp hn
    fin_cases hc
    · exact .ackEvents _
    · exact .setEventMask _
    · exact s.setMarks_effect p _ _
    · exact s.openFrame_effect p _
    · exact (s.readFrame_state p _).symm ▸ .answered _
    · exact (s.tableRead_state _ _).symm ▸ .answered _
  · obtain ⟨a, b, c, rfl⟩ := List.length_eq_three.mp hn
    exact s.ifHolder_effect p (s.setParameter_effect p _ _)
  · obtain ⟨a, b, c, d, rfl⟩ := List.length_eq_four.mp hn
    fin_cases hc
    · exact s.commitLocal_effect p _ _ _ _
    · exact s.ifHolder_effect p (s.setQuota_effect p _ _ _)
  · match args, hn with
    | [a, b, c, d, e], _ => exact s.commitTrunk_effect p _ _ _ _
  · match args, hn with
    | [a, b, c, d, e, f, g], _ => exact s.ifHolder_effect p (s.tableWrite_effect p _ _ _ _ _)

/-! ### Events of the trunk and the timers -/

/-- What an event of the trunk or of a timer does while RESET is released: the operation of its row. -/
inductive TrunkOp : (State → State) → Prop where
  | lineOctet (o : Byte) : TrunkOp (·.lineOctet o)
  | markerFound : TrunkOp State.markerFound
  | closeOf (t : Option FrameType) : TrunkOp (·.closeOf t)
  | arbitrate : TrunkOp State.arbitrate
  | roundSend : TrunkOp State.roundSend
  | rejectSend : TrunkOp State.rejectSend
  | haltSend : TrunkOp (·.flowSend .halt .halt 0x4#4)
  | goSend : TrunkOp (·.flowSend .go .go 0x5#4)
  | ackSend : TrunkOp State.ackSend
  | helloSend : TrunkOp State.helloSend
  | transmissionEnd : TrunkOp State.transmissionEnd
  | helloExpiry : TrunkOp State.helloExpiry
  | intervalExpiry : TrunkOp State.intervalExpiry
  | holdOffExpiry : TrunkOp State.holdOffExpiry
  | flushTimerExpiry : TrunkOp State.flushTimerExpiry
  | ackTimerExpiry : TrunkOp State.ackTimerExpiry
  | ackDelayExpiry : TrunkOp State.ackDelayExpiry
  | haltTimerExpiry : TrunkOp State.haltTimerExpiry
  | leaseTimerExpiry : TrunkOp State.leaseTimerExpiry
  | silence : TrunkOp State.silence
  | clockReturn : TrunkOp fun t => { t with framer := t.framer.clockSeen }

/-- The state that a command or event leaves, by what it does: a transaction that moves, a command that is taken, a
data-phase byte of APPEND DATA, an event of the trunk or a timer, or the RESET pin. -/
inductive Executed (c : Instr) (s : State) : State → Prop where
  | transaction {p : Port} {t : State} (hp : c.port? = some p) (h : TxnMoved p s t) : Executed c s t
  | command {p : Port} {u v t : State} {code : Byte} (hp : c.port? = some p) (hbegun : TxnMoved p s u)
    (heffect : CommandEffect p u (isManagementCode code) v) (hcode : s.codeOf c = some code)
    (hended : TxnMoved p v t) : Executed c s t
  | appendByte {p : Port} {u : State} {r : Result} {b : Byte} (hp : c.port? = some p) (h : TxnMoved p s u) :
    Executed c s (u.modPort p (·.appendByte r b))
  | trunk {op : State → State} (hc : c.port? = none) (hop : TrunkOp op) : Executed c s (op s)
  | idle (hc : c.port? = none) : Executed c s s
  | deviceReset (hc : c = .deviceReset) : Executed c s s.deviceReset
  | resetRelease (hc : c.port? = none) : Executed c s { s with resetAsserted := false }

theorem executed_trunkEvent {c : Instr} (hc : c.port? = none) {op : State → State} (hop : TrunkOp op) (s : State) :
    Executed c s (s.trunkEvent op) := by
  unfold State.trunkEvent
  split
  · exact .idle hc
  · exact .trunk hc hop

theorem executed_takeCommand {c : Instr} {p : Port} {code : Byte} (hp : c.port? = some p)
    (hcode : commandByte c = some code) (s : State) :
    Executed c s (s.takeCommand p (argumentBytes c).length (hostAct p code (argumentBytes c))) := by
  obtain h | ⟨u, hu, ht⟩ := s.takeCommand_cases p (argumentBytes c).length (hostAct p code (argumentBytes c))
  · exact .transaction hp h
  · have hargs : commandArgs code = some (argumentBytes c).length := by
      cases c
      all_goals first
        | cases hcode; done
        | (cases hcode; rfl)
    refine .command hp hu (hostAct_effect p u hargs) ?_ ht
    cases c
    case appendDataByte => cases hcode
    all_goals exact hcode

theorem executed_byteIn (p : Port) (b : Byte) (s : State) : Executed (.appendDataByte p b) s (s.byteIn p b) := by
  have idle : Executed (.appendDataByte p b) s s := .transaction rfl (.refl p s)
  have taken (got : List Byte) (htxn : (s.port p).txn = .selected got) :
      Executed (.appendDataByte p b) s (s.commandByteIn p got b) := by
    unfold State.commandByteIn
    split
    · exact idle
    · rename_i code args hcode
      split
      · exact .transaction rfl (txnMoved_takeBytes s p 1 State.illegal)
      · rename_i n hn
        split
        · rename_i hlength
          refine .command rfl (.refl p s) (hostAct_effect p s (hlength ▸ hn)) ?_ (txnMoved_takeBytes s p 1 _)
          simp [State.codeOf, htxn, hcode]
        · exact .transaction rfl (txnMoved_modPort rfl)
  unfold State.byteIn
  split
  · exact idle
  · exact taken _ ‹_›
  · rw [← State.modPort_modPort s p (·.shiftOut 1) (·.appendByte _ b)]
    exact .appendByte rfl (txnMoved_shiftOut s p 1)
  · exact .transaction rfl (txnMoved_readByte s p _ _ _)
  · exact .transaction rfl (txnMoved_shiftOut s p 1)
  · exact idle

theorem executed_byteOut (p : Port) (s : State) : Executed (.readFrameByte p) s (s.byteOut p) := by
  have idle : Executed (.readFrameByte p) s s := .transaction rfl (.refl p s)
  unfold State.byteOut
  split
  · exact .transaction rfl (txnMoved_readByte s p _ _ _)
  · exact .transaction rfl (txnMoved_shiftOut s p 1)
  all_goals exact idle

/-- What a command or event leaves, row by row. -/
theorem exec_executed {c : Instr} {s t : State} (h : exec c s = .next t) : Executed c s t := by
  have next {u : State} (hu : exec c s = .next u) (hx : Executed c s u) : Executed c s t := by
    cases hu.symm.trans h
    exact hx
  cases c
  case appendDataByte p b =>
    refine next rfl ?_
    split
    · exact .transaction rfl (.refl p s)
    · exact executed_byteIn p b s
  case readFrameByte p =>
    refine next rfl ?_
    split
    · exact .transaction rfl (.refl p s)
    · exact executed_byteOut p s
  case illegal p code =>
    refine next rfl ?_
    split
    · obtain h | ⟨u, hu, ht⟩ := s.takeCommand_cases p 0 State.illegal
      · exact .transaction rfl h
      · exact .transaction rfl (hu.trans ht)
    · exact .transaction rfl (.refl p s)
  case transactionEnd p edge =>
    refine next rfl ?_
    cases edge
    · exact .transaction rfl (txnMoved_selectPort s p)
    · exact .transaction rfl (txnMoved_releasePort s p)
  case deviceReset => exact next rfl (.deviceReset rfl)
  case resetRelease => exact next rfl (.resetRelease rfl)
  case rxMarkerFound => exact next rfl (executed_trunkEvent rfl .markerFound s)
  case rxFrameOctet o => exact next rfl (executed_trunkEvent rfl (.lineOctet o) s)
  case dataFrameReceived => exact next rfl (executed_trunkEvent rfl (.closeOf _) s)
  case ackFrameReceived => exact next rfl (executed_trunkEvent rfl (.closeOf _) s)
  case rejectFrameReceived => exact next rfl (executed_trunkEvent rfl (.closeOf _) s)
  case haltFrameReceived => exact next rfl (executed_trunkEvent rfl (.closeOf _) s)
  case goFrameReceived => exact next rfl (executed_trunkEvent rfl (.closeOf _) s)
  case helloFrameReceived => exact next rfl (executed_trunkEvent rfl (.closeOf _) s)
  case unknownTypeFrameEnd => exact next rfl (executed_trunkEvent rfl (.closeOf _) s)
  case arbitration => exact next rfl (executed_trunkEvent rfl .arbitrate s)
  case roundDataSend => exact next rfl (executed_trunkEvent rfl .roundSend s)
  case rejectSend => exact next rfl (executed_trunkEvent rfl .rejectSend s)
  case haltSend => exact next rfl (executed_trunkEvent rfl .haltSend s)
  case goSend => exact next rfl (executed_trunkEvent rfl .goSend s)
  case ackSend => exact next rfl (executed_trunkEvent rfl .ackSend s)
  case helloSend => exact next rfl (executed_trunkEvent rfl .helloSend s)
  case transmissionEnd => exact next rfl (executed_trunkEvent rfl .transmissionEnd s)
  case helloTimerExpiry => exact next rfl (executed_trunkEvent rfl .helloExpiry s)
  case intervalTimerExpiry => exact next rfl (executed_trunkEvent rfl .intervalExpiry s)
  case holdOffTimerExpiry => exact next rfl (executed_trunkEvent rfl .holdOffExpiry s)
  case flushTimerExpiry => exact next rfl (executed_trunkEvent rfl .flushTimerExpiry s)
  case ackTimerExpiry => exact next rfl (executed_trunkEvent rfl .ackTimerExpiry s)
  case ackDelayTimerExpiry => exact next rfl (executed_trunkEvent rfl .ackDelayExpiry s)
  case haltTimerExpiry => exact next rfl (executed_trunkEvent rfl .haltTimerExpiry s)
  case leaseTimerExpiry => exact next rfl (executed_trunkEvent rfl .leaseTimerExpiry s)
  case silentLine => exact next rfl (executed_trunkEvent rfl .silence s)
  case rckClockReturn => exact next rfl (executed_trunkEvent rfl .clockReturn s)
  all_goals exact next (exec_eq_takeCommand rfl rfl s) (executed_takeCommand rfl rfl s)

/-- A property that holds of every state but what a step does to it: what it takes to be kept by every step. -/
structure KeptByMoves (P : State → Prop) : Prop where
  queue : ∀ s l, P s → P { s with pending := l }
  transaction : ∀ p s t, TxnMoved p s t → P s → P t
  command : ∀ p s managed t, CommandEffect p s managed t → P s → P t
  appendByte : ∀ p s r b, P s → P (s.modPort p (·.appendByte r b))
  trunk : ∀ op s, TrunkOp op → P s → P (op s)
  deviceReset : ∀ s, P s → P s.deviceReset
  resetRelease : ∀ s, P s → P { s with resetAsserted := false }

/-- Such a property is kept by every step. -/
theorem KeptByMoves.of_step {P : State → Prop} (hP : KeptByMoves P) {s t : State} (hs : P s) (h : step s = .next t) :
    P t := by
  unfold step at h
  split at h
  · cases h
    exact hs
  · rename_i c rest hpending
    have hs := hP.queue s rest hs
    obtain ⟨-, ht⟩ | ⟨-, hu, hv, -, ht⟩ | ⟨-, hu⟩ | ⟨-, hop⟩ | - | - | - := exec_executed h
    · exact hP.transaction _ _ _ ht hs
    · exact hP.transaction _ _ _ ht (hP.command _ _ _ _ hv (hP.transaction _ _ _ hu hs))
    · exact hP.appendByte _ _ _ _ (hP.transaction _ _ _ hu hs)
    · exact hP.trunk _ _ hop hs
    · exact hs
    · exact hP.deviceReset _ hs
    · exact hP.resetRelease _ hs

end Sys2Proof.Machine
end

section
/-! SUPPORT. What an event of the trunk or of a timer leaves, said once for each shared operation: a port's own things,
the shared settings, the recorded level, and that LINK_CHANGE goes with a change of the link state. -/

namespace Sys2Proof.Machine

/-! ### What is left of a port -/

/-- From u to v no flag is cleared. -/
def EventUnit.Grown (u v : EventUnit) : Prop := u.flags &&& ~~~v.flags = 0#11

theorem EventUnit.Grown.refl (u : EventUnit) : u.Grown u := by
  unfold EventUnit.Grown
  ext i hi
  simp

theorem EventUnit.Grown.trans {u v w : EventUnit} (h : u.Grown v) (h' : v.Grown w) : u.Grown w := by
  unfold EventUnit.Grown at *
  ext i hi
  have h := congrArg (·[i]) h
  have h' := congrArg (·[i]) h'
  simp at h h' ⊢
  grind

theorem EventUnit.Grown.raise (u : EventUnit) (e : Event) : u.Grown (u.raise e) := by
  unfold EventUnit.Grown
  rw [EventUnit.raise_eq]
  ext i hi
  simp
  grind

/-- A flag that is set stays set. -/
theorem EventUnit.Grown.flag {u v : EventUnit} (h : u.Grown v) {m : BitVec 11} (hm : u.flags &&& m ≠ 0#11) :
    v.flags &&& m ≠ 0#11 := by
  unfold EventUnit.Grown at h
  intro h0
  apply hm
  ext i hi
  have h := congrArg (·[i]) h
  have h0 := congrArg (·[i]) h0
  simp at h h0 ⊢
  grind

theorem EventUnit.flag_raise (u : EventUnit) (e : Event) : (u.raise e).flags &&& e.bit ≠ 0#11 := by
  have hbit : e.bit ≠ 0#11 := by cases e <;> decide
  rw [EventUnit.raise_eq]
  intro h
  apply hbit
  ext i hi
  have h := congrArg (·[i]) h
  simp at h ⊢
  grind

/-- What neither another port's command nor an event of the trunk reaches (R27, R142, R165, R167, R171): the build slot,
the mask, the marks and the transaction stay, no flag is cleared, and no record leaves a list. -/
structure PortState.Spared (a b : PortState) : Prop where
  slot : b.slot = a.slot
  mask : b.events.mask = a.events.mask
  flags : a.events.Grown b.events
  high : b.rx.high = a.rx.high
  low : b.rx.low = a.rx.low
  received : a.rx.records <+: b.rx.records
  completed : a.cpl.records <+: b.cpl.records
  prevResult : b.prevResult = a.prevResult
  txn : b.txn = a.txn
  out : b.out = a.out
  reply : b.reply = a.reply

/-- What an event of the trunk keeps of a port besides: the quotas, the interrupt line in step with the flags, and at
most 32 receive records. -/
structure PortState.Kept (a b : PortState) : Prop extends PortState.Spared a b where
  floor : b.floor = a.floor
  ceiling : b.ceiling = a.ceiling
  line : a.events.irq = a.events.pending → b.events.irq = b.events.pending
  room : a.rx.records.length ≤ Config.rxPlaces → b.rx.records.length ≤ Config.rxPlaces

theorem PortState.Spared.refl (a : PortState) : a.Spared a :=
  ⟨rfl, rfl, .refl _, rfl, rfl, ⟨[], List.append_nil _⟩, ⟨[], List.append_nil _⟩, rfl, rfl, rfl, rfl⟩

theorem PortState.Spared.trans {a b c : PortState} (h : a.Spared b) (h' : b.Spared c) : a.Spared c :=
  ⟨h'.slot.trans h.slot, h'.mask.trans h.mask, h.flags.trans h'.flags, h'.high.trans h.high, h'.low.trans h.low,
    h.received.trans h'.received, h.completed.trans h'.completed, h'.prevResult.trans h.prevResult,
    h'.txn.trans h.txn, h'.out.trans h.out, h'.reply.trans h.reply⟩

theorem PortState.Kept.refl (a : PortState) : a.Kept a := ⟨.refl a, rfl, rfl, id, id⟩

theorem PortState.Kept.trans {a b c : PortState} (h : a.Kept b) (h' : b.Kept c) : a.Kept c :=
  ⟨h.toSpared.trans h'.toSpared, h'.floor.trans h.floor, h'.ceiling.trans h.ceiling, h'.line ∘ h.line,
    h'.room ∘ h.room⟩

theorem PortState.Kept.raise (a : PortState) (e : Event) : a.Kept (a.raise e) :=
  ⟨⟨rfl, rfl, .raise _ e, rfl, rfl, ⟨[], List.append_nil _⟩, ⟨[], List.append_nil _⟩, rfl, rfl, rfl, rfl⟩, rfl, rfl,
    fun _ => EventUnit.raise_irq a.events e, id⟩

/-- A port whose other fields are as they were is kept: holdings, queue, deference flag, reserved slots, mark state and
last refusal are free. -/
theorem PortState.Kept.of_fields (a : PortState) (holdings : Nat) (queue : List Frame) (deferred : Bool)
    (reserved : Nat) (mark : MarkState) (refusal : Option LastRefusal) :
    a.Kept
      { a with
        holdings := holdings, queue := queue, deferred := deferred, cpl := { a.cpl with reserved := reserved }
        rx := { a.rx with markState := mark, lastRefusal := refusal } } :=
  ⟨⟨rfl, rfl, .refl _, rfl, rfl, ⟨[], List.append_nil _⟩, ⟨[], List.append_nil _⟩, rfl, rfl, rfl, rfl⟩, rfl, rfl,
    id, id⟩

theorem PortState.Kept.appendCompletion (a : PortState) (r : CplRecord) : a.Kept (a.appendCompletion r) :=
  ⟨⟨rfl, rfl, .raise _ .txDone, rfl, rfl, ⟨[], List.append_nil _⟩, ⟨_, rfl⟩, rfl, rfl, rfl, rfl⟩, rfl, rfl,
    fun _ => EventUnit.raise_irq a.events .txDone, id⟩

theorem PortState.Kept.refuse (a : PortState) (r : LastRefusal) : a.Kept (a.refuse r) :=
  (PortState.Kept.of_fields a a.holdings a.queue a.deferred a.cpl.reserved a.rx.markState (some r)).trans
    (.raise _ .rxRefused)

theorem PortState.Kept.appendRecord (a : PortState) (r : RxRecord) (hroom : a.hasRoom = true) :
    a.Kept (a.appendRecord r) := by
  have hlength : (a.rx.records ++ [r]).length ≤ Config.rxPlaces := by
    rw [List.length_append]
    exact of_decide_eq_true hroom
  have appended (mark : MarkState) :
      a.Kept { a with rx := { a.rx with records := a.rx.records ++ [r], markState := mark } } :=
    ⟨⟨rfl, rfl, .refl _, rfl, rfl, ⟨_, rfl⟩, ⟨[], List.append_nil _⟩, rfl, rfl, rfl, rfl⟩, rfl, rfl, id,
      fun _ => hlength⟩
  by_cases h : a.rx.markState = .below ∧ a.rx.high ≤ (a.rx.records ++ [r]).length
  · rw [PortState.appendRecord_high h]
    exact ((appended _).trans (.raise _ .rxReady)).trans (.raise _ .rxHigh)
  · rw [PortState.appendRecord_not_high h]
    exact (appended _).trans (.raise _ .rxReady)

/-! ### What is left of the part -/

/-- The active table keeps its entries, and its hit counters stay sound and in 16 bits (R117). -/
structure Classifier.Kept (c d : Classifier) : Prop where
  entries : d.active.map (·.entry) = c.active.map (·.entry)
  shadow : d.shadow = c.shadow
  dirty : d.dirty = c.dirty
  hits : (∀ a ∈ c.active, (a.entry.inUse = false → a.hits = 0) ∧ a.hits ≤ Config.counterMax) →
    ∀ a ∈ d.active, (a.entry.inUse = false → a.hits = 0) ∧ a.hits ≤ Config.counterMax
  unclaimed : c.unclaimed ≤ Config.counterMax → d.unclaimed ≤ Config.counterMax

theorem Classifier.Kept.refl (c : Classifier) : c.Kept c := ⟨rfl, rfl, rfl, id, id⟩

theorem Classifier.Kept.trans {c d e : Classifier} (h : c.Kept d) (h' : d.Kept e) : c.Kept e :=
  ⟨h'.entries.trans h.entries, h'.shadow.trans h.shadow, h'.dirty.trans h.dirty, h'.hits ∘ h.hits,
    h'.unclaimed ∘ h.unclaimed⟩

/-- A change of the link state, which is OFF only where that is allowed, raises LINK_CHANGE on all ports (R75). -/
def LinkTold (off : Bool) (s t : State) : Prop :=
  t.link.state = s.link.state ∨ ((off = false → t.link.state ≠ .off) ∧ ∀ q, t.flagged q .linkChange)

/-- From s to t: the ports are kept, the shared settings and the lease stay, the counters stay in 16 bits, and a
change of the link state is told. -/
structure Mild (off : Bool) (s t : State) : Prop where
  port : ∀ q, (s.port q).Kept (t.port q)
  params : t.params = s.params
  lease : t.lease = s.lease
  classifier : s.classifier.Kept t.classifier
  invalidCount : s.framer.invalidCount ≤ Config.counterMax → t.framer.invalidCount ≤ Config.counterMax
  retransCount : s.engine.retransCount ≤ Config.counterMax → t.engine.retransCount ≤ Config.counterMax
  link : LinkTold off s t

/-- A mild change that leaves the recorded level that of shared free (R15). -/
structure Quiet (off : Bool) (s t : State) : Prop extends Mild off s t where
  level : s.LevelLaw → t.LevelLaw

section
variable {off : Bool} {s t u : State}

theorem Mild.refl (off : Bool) (s : State) : Mild off s s :=
  ⟨fun _ => .refl _, rfl, rfl, .refl _, id, id, .inl rfl⟩

theorem Mild.trans (h : Mild off s t) (h' : Mild off t u) : Mild off s u where
  port q := (h.port q).trans (h'.port q)
  params := h'.params.trans h.params
  lease := h'.lease.trans h.lease
  classifier := h.classifier.trans h'.classifier
  invalidCount := h'.invalidCount ∘ h.invalidCount
  retransCount := h'.retransCount ∘ h.retransCount
  link := by
    obtain htu | htu := h'.link
    · obtain hst | ⟨hoff, hflag⟩ := h.link
      · exact .inl (htu.trans hst)
      · exact .inr ⟨htu ▸ hoff, fun q => (h'.port q).flags.flag (hflag q)⟩
    · exact .inr htu

theorem Quiet.refl (off : Bool) (s : State) : Quiet off s s := ⟨.refl off s, id⟩

theorem Quiet.trans (h : Quiet off s t) (h' : Quiet off t u) : Quiet off s u :=
  ⟨h.toMild.trans h'.toMild, h'.level ∘ h.level⟩

/-- The later change first: its starting state is read off the goal. -/
theorem Quiet.after (h' : Quiet off t u) (h : Quiet off s t) : Quiet off s u := h.trans h'

/-- A change that leaves the ports, the pool's free cells and level, parameters, lease, tables, counters and link
state as they were is quiet. -/
theorem quiet_of_eq (hports : t.ports = s.ports) (hfree : t.pool.free = s.pool.free)
    (hlevel : t.pool.level = s.pool.level) (hparams : t.params = s.params) (hlease : t.lease = s.lease)
    (hclassifier : t.classifier = s.classifier) (hinvalid : t.framer.invalidCount = s.framer.invalidCount)
    (hretrans : t.engine.retransCount = s.engine.retransCount) (hlink : t.link.state = s.link.state) :
    Quiet off s t := by
  have hport (q : Port) : t.port q = s.port q := by unfold State.port; rw [hports]
  have hshared : t.sharedFree = s.sharedFree := State.sharedFree_congr hfree fun q => by rw [hport]
  exact ⟨⟨fun q => hport q ▸ .refl _, hparams, hlease, hclassifier ▸ .refl _, fun h => hinvalid ▸ h,
    fun h => hretrans ▸ h, .inl hlink⟩, fun h => by unfold State.LevelLaw; rw [hshared, hlevel, hparams]; exact h⟩

/-- A change of one port that keeps it is mild. -/
theorem mild_modPort {p : Port} {f : PortState → PortState} (h : (s.port p).Kept (f (s.port p))) :
    Mild off s (s.modPort p f) where
  port q := by
    rw [State.port_modPort]
    split
    · next hq => subst hq; exact h
    · exact .refl _
  params := rfl
  lease := rfl
  classifier := .refl _
  invalidCount := id
  retransCount := id
  link := .inl rfl

/-- The level law reads the reservations of the ports alone. -/
theorem State.LevelLaw.modPort (hs : s.LevelLaw) {p : Port} {f : PortState → PortState}
    (h : (f (s.port p)).reservation = (s.port p).reservation) : (s.modPort p f).LevelLaw := by
  have hshared : (s.modPort p f).sharedFree = s.sharedFree := State.sharedFree_congr rfl fun q => by
    rw [State.port_modPort]
    split
    · next hq => subst hq; exact h
    · rfl
  unfold State.LevelLaw
  rw [hshared]
  exact hs

theorem quiet_modPort {p : Port} {f : PortState → PortState} (h : (s.port p).Kept (f (s.port p)))
    (hr : (f (s.port p)).reservation = (s.port p).reservation) : Quiet off s (s.modPort p f) :=
  ⟨mild_modPort h, fun hs => hs.modPort hr⟩

/-- The pool's own counts are no part of what is mild. -/
theorem mild_withPool (s : State) (pool : Pool) : Mild off s { s with pool := pool } :=
  ⟨fun _ => .refl _, rfl, rfl, .refl _, id, id, .inl rfl⟩

end

section
variable (off : Bool) (s : State)

theorem State.recordLevel_levelLaw : s.recordLevel.LevelLaw := by
  unfold State.LevelLaw
  rw [State.sharedFree_recordLevel]
  show (if s.sharedFree < s.params.poolLow then PoolLevel.below else .atOrAbove) = .below ↔ _
  split <;> simp_all [State.recordLevel]

theorem State.raiseAll_mild (e : Event) : Mild off s (s.raiseAll e) :=
  ⟨fun q => s.port_raiseAll e q ▸ .raise _ e, rfl, rfl, .refl _, id, id, .inl rfl⟩

theorem State.resumePeer_quiet : Quiet off s s.resumePeer := by
  obtain ⟨h, -⟩ | ⟨h, -⟩ := s.resumePeer_cases
  · rw [h]; exact quiet_of_eq rfl rfl rfl rfl rfl rfl rfl rfl rfl
  · rw [h]; exact .refl off s

/-- Judging the pool is mild (R15, R113). -/
theorem State.settlePool_mild : Mild off s s.settlePool := by
  refine .trans ?_ (s.judgePoolLow.resumePeer_quiet off).toMild
  obtain ⟨h, -⟩ | ⟨h, -⟩ := s.judgePoolLow_cases
  · rw [h]; exact (s.raiseAll_mild off .poolLow).trans (mild_withPool _ _)
  · rw [h]; exact mild_withPool s _

/-- Judging the pool records the level it stands at (R15). -/
theorem State.settlePool_levelLaw : s.settlePool.LevelLaw := by
  refine (s.judgePoolLow.resumePeer_quiet true).level ?_
  obtain ⟨h, -⟩ | ⟨h, -⟩ := s.judgePoolLow_cases <;> rw [h]
  · exact State.recordLevel_levelLaw _
  · exact State.recordLevel_levelLaw _

variable {off s} in
/-- A mild change whose pool is judged is quiet. -/
theorem Mild.settlePool {t : State} (h : Mild off s t) : Quiet off s t.settlePool :=
  ⟨h.trans (t.settlePool_mild off), fun _ => t.settlePool_levelLaw⟩

end

end Sys2Proof.Machine
end

section
/-! SUPPORT. Each shared operation of the pool, the completion lists, the transmissions and the link is quiet: what it
leaves is what every law of a single unit needs. -/

namespace Sys2Proof.Machine

section
variable {off : Bool} {s t : State}

/-! ### The pool and the lists -/

theorem quiet_foldl {α : Type} {f : State → α → State} (l : List α) (h : ∀ x ∈ l, ∀ t, Quiet off t (f t x))
    (s : State) :
    Quiet off s (l.foldl f s) := by
  induction l generalizing s with
  | nil => exact .refl off s
  | cons x l ih =>
    exact (h x List.mem_cons_self s).trans (ih (fun y hy => h y (List.mem_cons_of_mem x hy)) _)

/-- A change of holdings is mild: they belong to no law of a single port. -/
theorem mild_holdings (s : State) (p : Port) (k : PortState → Nat) :
    Mild off s (s.modPort p fun ps => { ps with holdings := k ps }) :=
  mild_modPort (.of_fields _ _ _ _ _ _ _)

theorem State.returnFrames_mild (s : State) (p : Port) (l : List Frame) : Mild off s (s.returnFrames p l) :=
  (mild_holdings s p _).trans (mild_withPool _ _)

theorem State.movePayment_mild (s : State) (p q : Port) (k : Nat) : Mild off s (s.movePayment p q k) :=
  (mild_holdings s p _).trans (mild_holdings _ q _)

theorem State.freeFrame_quiet (s : State) (p : Port) (f : Frame) : Quiet off s (s.freeFrame p f) :=
  (s.returnFrames_mild p [f]).settlePool

theorem quiet_withFramer (s : State) (f : Framer) (h : f.invalidCount = s.framer.invalidCount) :
    Quiet off s { s with framer := f } :=
  quiet_of_eq rfl rfl rfl rfl rfl rfl h rfl rfl

theorem quiet_withEngine (s : State) (e : Engine) (h : e.retransCount = s.engine.retransCount) :
    Quiet off s { s with engine := e } :=
  quiet_of_eq rfl rfl rfl rfl rfl rfl rfl h rfl

theorem quiet_withLink (s : State) (l : Link) (h : l.state = s.link.state) : Quiet off s { s with link := l } :=
  quiet_of_eq rfl rfl rfl rfl rfl rfl rfl rfl h

theorem State.releaseInbound_quiet (s : State) : Quiet off s s.releaseInbound := by
  obtain ⟨h, e⟩ | ⟨-, e⟩ := s.releaseInbound_cases <;> rw [e]
  · exact quiet_of_eq rfl (by simp [h]) rfl rfl rfl rfl rfl rfl rfl
  · have emptied : Quiet off s { s with framer := { s.framer with stored := [] } } := quiet_withFramer s _ rfl
    exact Mild.settlePool (emptied.toMild.trans (mild_withPool _ _))

theorem quiet_queue (s : State) (p : Port) (queue : PortState → List Frame) :
    Quiet off s (s.modPort p fun ps => { ps with queue := queue ps }) :=
  quiet_modPort (.of_fields _ _ _ _ _ _ _) rfl

theorem State.convertSlot_quiet (s : State) (p : Port) (f : Frame) (outcome : CplOutcome) :
    Quiet off s (s.convertSlot p f outcome) :=
  quiet_modPort ((PortState.Kept.of_fields _ _ _ _ _ _ _).trans (.appendCompletion _ _)) rfl

theorem quiet_ite {c : Prop} [Decidable c] (ht : Quiet off s t) {u : State} (hu : Quiet off s u) :
    Quiet off s (if c then t else u) := by
  split
  · exact ht
  · exact hu

theorem State.failFrame_quiet (s : State) (p : Port) (outcome : CplOutcome) (f : Frame) :
    Quiet off s (s.failFrame p outcome f) :=
  quiet_ite ((s.freeFrame_quiet p f).trans (State.convertSlot_quiet _ _ _ _)) (s.freeFrame_quiet p f)

theorem State.failQueue_quiet (s : State) (outcome : CplOutcome) (p : Port) : Quiet off s (s.failQueue outcome p) :=
  (quiet_foldl _ (fun f _ t => t.failFrame_quiet p outcome f) _).after (quiet_queue s p _)

theorem State.failWaiting_quiet (s : State) (outcome : CplOutcome) : Quiet off s (s.failWaiting outcome) :=
  quiet_foldl _ (fun p _ t => t.failQueue_quiet outcome p) s

theorem State.failEntry_quiet (s : State) (e : WindowEntry) : Quiet off s (s.failEntry e) :=
  quiet_ite ((s.freeFrame_quiet _ _).trans (State.convertSlot_quiet _ _ _ _)) (s.freeFrame_quiet _ _)

theorem State.failWindow_quiet (s : State) : Quiet off s s.failWindow :=
  (quiet_foldl _ (fun e _ t => t.failEntry_quiet e) _).after (quiet_withEngine s _ rfl)

/-! ### Transmissions -/

theorem State.endTransmission_quiet (s : State) (c : List Byte) : Quiet off s (s.endTransmission c) := by
  obtain ⟨-, e⟩ | ⟨x, -, ⟨-, e⟩ | ⟨p, f, -, e⟩⟩ := s.endTransmission_cases c <;> rw [e]
  · exact .refl off s
  · exact quiet_of_eq rfl rfl rfl rfl rfl rfl rfl rfl rfl
  · exact (State.freeFrame_quiet _ p f).after (quiet_of_eq rfl rfl rfl rfl rfl rfl rfl rfl rfl)

theorem State.abortTransmission_quiet (s : State) : Quiet off s s.abortTransmission := by
  obtain ⟨-, e⟩ | ⟨x, c, -, -, e⟩ := s.abortTransmission_cases <;> rw [e]
  · exact .refl off s
  · exact (State.endTransmission_quiet _ c).after (quiet_of_eq rfl rfl rfl rfl rfl rfl rfl rfl rfl)

theorem State.startFrame_quiet (s : State) (kind : FrameType) (octets : List Byte) :
    Quiet off s (s.startFrame kind octets) := by
  refine quiet_of_eq rfl rfl rfl rfl rfl rfl rfl ?_ ?_
  · show (if _ then _ else _ : Engine).retransCount = _
    split <;> rfl
  · show (if _ then _ else _ : Link).state = _
    split <;> rfl

/-! ### Moves of the link -/

theorem State.setLinkState_quiet (s : State) (l : LinkState) (h : off = false → l ≠ .off) :
    Quiet off s (s.setLinkState l) where
  toMild :=
    { port := fun q => by unfold State.setLinkState; rw [State.port_raiseAll]; exact .raise _ _
      params := rfl
      lease := rfl
      classifier := .refl _
      invalidCount := id
      retransCount := id
      link := .inr ⟨h, fun q => by
        unfold State.setLinkState State.flagged
        rw [State.port_raiseAll]
        exact EventUnit.flag_raise _ .linkChange⟩ }
  level := id

theorem State.flushExpiry_quiet (s : State) : Quiet off s s.flushExpiry :=
  (s.failWaiting_quiet _).trans (quiet_withLink _ _ rfl)

theorem State.startFlushTimer_quiet (s : State) : Quiet off s s.startFlushTimer := by
  obtain ⟨-, e⟩ | ⟨-, -, e⟩ | ⟨-, -, e⟩ := s.startFlushTimer_cases <;> rw [e]
  · exact .refl off s
  · exact s.flushExpiry_quiet
  · exact quiet_withLink s _ rfl

theorem State.enterSeeking_quiet (s : State) : Quiet off s s.enterSeeking :=
  (State.setLinkState_quiet _ _ (by simp)).after (quiet_withLink s _ rfl)

theorem State.enterConfirming_quiet (s : State) (b : Byte) : Quiet off s (s.enterConfirming b) :=
  (State.setLinkState_quiet _ _ (by simp)).after (quiet_withLink s _ rfl)

theorem State.enterUp_quiet (s : State) : Quiet off s s.enterUp :=
  (State.setLinkState_quiet _ _ (by simp)).after (quiet_of_eq rfl rfl rfl rfl rfl rfl rfl rfl rfl)

theorem State.enterLost_quiet (s : State) (cause : LossCause) : Quiet off s (s.enterLost cause) :=
  (State.setLinkState_quiet _ _ (by simp)).after (quiet_withLink s _ rfl)

theorem State.cutOff_quiet (s : State) (after : RxState) : Quiet off s (s.cutOff after) := by
  obtain ⟨-, e⟩ | ⟨-, e⟩ := s.cutOff_cases after <;> rw [e]
  · exact .refl off s
  · exact s.releaseInbound_quiet.trans (quiet_withFramer _ _ rfl)

theorem State.discardOrphans_quiet (s : State) : Quiet off s s.discardOrphans :=
  quiet_foldl _ (fun _ _ t => t.freeFrame_quiet _ _) s

theorem State.requeue_quiet (s : State) (w : List WindowEntry) (p : Port) : Quiet off s (s.requeue w p) :=
  quiet_queue s p _

theorem State.returnWindow_quiet (s : State) : Quiet off s s.returnWindow :=
  (s.discardOrphans_quiet.trans (quiet_foldl _ (fun p _ t => t.requeue_quiet _ p) _)).trans
    (quiet_withEngine _ _ rfl)

theorem State.leaveUp_quiet (s : State) (cause : LossCause) : Quiet off s (s.leaveUp cause) := by
  have returned : Quiet off s s.abortTransmission.returnWindow :=
    s.abortTransmission_quiet.trans (State.returnWindow_quiet _)
  have quieted := (returned.trans (State.cutOff_quiet _ .discarding)).trans
    (quiet_withEngine _ (s.abortTransmission.returnWindow.cutOff .discarding).engine.quiet rfl)
  exact (quieted.trans (State.startFlushTimer_quiet _)).trans (State.enterLost_quiet _ cause)

theorem State.loopedBack_quiet (s : State) : Quiet off s s.loopedBack :=
  s.abortTransmission_quiet.trans (State.enterLost_quiet _ _)

theorem State.trunkOn_quiet (s : State) : Quiet off s s.trunkOn := by
  unfold State.trunkOn
  split
  · exact (State.startFlushTimer_quiet _).after ((State.enterSeeking_quiet _).after (quiet_withFramer s _ rfl))
  · exact .refl off s

theorem State.enterOff_quiet (s : State) : Quiet true s s.enterOff :=
  (State.setLinkState_quiet _ _ (by simp)).after (quiet_withLink s _ rfl)

/-- TRUNK OFF is quiet where the trunk may be turned off. -/
theorem State.trunkOff_quiet (s : State) : Quiet true s s.trunkOff := by
  unfold State.trunkOff
  split
  · exact .refl true s
  · have failed := (s.abortTransmission_quiet (off := true) |>.trans (State.failWindow_quiet _)).trans
      (State.failWaiting_quiet _ .linkOff)
    have cut := failed.trans (State.cutOff_quiet _ .ignoring)
    refine (State.enterOff_quiet _).after (cut.trans ?_)
    generalize State.cutOff _ _ = u
    exact quiet_of_eq rfl rfl rfl rfl rfl rfl rfl rfl rfl

/-! ### Acknowledgement and rounds -/

theorem State.holdOnLine_quiet (s : State) (p : Port) (f : Frame) : Quiet off s (s.holdOnLine p f) := by
  unfold State.holdOnLine
  split
  · exact quiet_withFramer s _ rfl
  · exact s.freeFrame_quiet p f

theorem State.ackHead_quiet (s : State) : Quiet off s s.ackHead := by
  obtain ⟨-, e⟩ | ⟨x, rest, -, e⟩ := s.ackHead_cases <;> rw [e]
  · exact .refl off s
  · have left : Quiet off s { s with engine := { s.engine with window := rest } } := quiet_withEngine s _ rfl
    have paid := left.trans
      (quiet_ite (c := x.onLine = true) (State.holdOnLine_quiet _ x.owner x.frame)
        (State.freeFrame_quiet _ x.owner x.frame))
    exact quiet_ite (paid.trans (State.convertSlot_quiet _ _ _ _)) paid

theorem State.ackEntries_quiet (s : State) (n : Nat) : Quiet off s (s.ackEntries n) := by
  induction n generalizing s with
  | zero => exact .refl off s
  | succ n ih => exact s.ackHead_quiet.trans (ih _)

theorem State.acknowledge_quiet (s : State) (n : Seq) : Quiet off s (s.acknowledge n) := by
  have acked := s.ackEntries_quiet (off := off) (n - s.engine.va).toNat
  unfold State.acknowledge
  dsimp only
  split_ifs
  · exact acked.trans (quiet_withEngine _ _ rfl)
  · exact acked.trans (quiet_withEngine _ _ rfl)
  · exact acked

theorem State.retryFrom_quiet (s : State) (n : Seq) : Quiet off s (s.retryFrom n) :=
  quiet_ite (s.leaveUp_quiet _) (quiet_withEngine s _ rfl)

theorem State.oweAck_quiet (s : State) : Quiet off s s.oweAck := quiet_ite (.refl off s) (quiet_withEngine s _ rfl)

theorem State.oweReject_quiet (s : State) : Quiet off s s.oweReject :=
  quiet_ite (.refl off s) (quiet_withEngine s _ rfl)

end

end Sys2Proof.Machine
end

section
/-! SUPPORT. The judgement of the pool (R15, R113), the choice of the payer (R12, R13) and delivery (R123, R35, R138,
R143), each as one description of what it leaves. -/

namespace Sys2Proof

theorem HostSet.has_ofPorts (f : Port → Bool) (q : Port) : (HostSet.ofPorts f).has q = f q := by
  unfold HostSet.ofPorts
  cases q <;> generalize f .p0 = a, f .p1 = b, f .p2 = c, f .p3 = d <;> revert a b c d <;> decide

theorem HostSet.mem_ports {h : HostSet} {q : Port} : q ∈ h.ports ↔ h.has q = true := by
  simp [HostSet.ports, Port.mem_all]

theorem HostSet.nodup_ports (h : HostSet) : h.ports.Nodup := List.Nodup.filter _ (by decide)

theorem HostSet.has_and_not (h k : HostSet) (q : Port) : HostSet.has (h &&& ~~~k) q = (h.has q && !k.has q) := by
  cases q <;> simp [HostSet.has, Port.toNat]

namespace Machine

/-! ### Events as fields of bits -/

theorem Event.bit_ne_zero (e : Event) : e.bit ≠ 0#11 := by cases e <;> decide

theorem EventUnit.raise_eq_raised (u : EventUnit) (e : Event) : u.raise e = u.raised e.bit := by
  rw [EventUnit.raised, if_neg e.bit_ne_zero]
  rfl

@[simp] theorem EventUnit.raised_zero (u : EventUnit) : u.raised 0#11 = u := if_pos rfl

/-- Raising two fields of events is raising their union: the line follows in the end (R171). -/
theorem EventUnit.raised_raised (u : EventUnit) (m n : BitVec 11) : (u.raised m).raised n = u.raised (m ||| n) := by
  by_cases hm : m = 0#11
  · simp [hm]
  by_cases hn : n = 0#11
  · simp [hn]
  have hmn : m ||| n ≠ 0#11 := fun h => hm (BitVec.or_eq_zero_iff.mp h).1
  simp [EventUnit.raised, hm, hn, hmn, BitVec.or_assoc]

theorem PortState.raise_eq_raised (ps : PortState) (e : Event) :
    ps.raise e = { ps with events := ps.events.raised e.bit } := by
  unfold PortState.raise
  rw [EventUnit.raise_eq_raised]

@[simp] theorem Event.bitIf_true (e : Event) : e.bitIf true = e.bit := rfl

@[simp] theorem Event.bitIf_false (e : Event) : e.bitIf false = 0#11 := rfl

/-! ### The judgement of the pool -/

/-- Judging the pool as it stands takes shared free below P14 (R15). -/
def State.fallsLow (s : State) : Bool := s.pool.level == .atOrAbove && decide (s.sharedFree < s.params.poolLow)

theorem State.judgePoolLow_eq (s : State) :
    s.judgePoolLow = (if s.fallsLow then s.raiseAll .poolLow else s).recordLevel := by
  have h : s.fallsLow = true ↔ s.sharedFree < s.params.poolLow ∧ s.pool.level = .atOrAbove := by
    simp [State.fallsLow, and_comm]
  unfold State.judgePoolLow
  simp only [← h]
  split
  · rfl
  · rfl

theorem State.sharedFree_settlePool (s : State) : s.settlePool.sharedFree = s.sharedFree := by
  rw [← s.sharedFree_judgePoolLow]
  unfold State.settlePool
  obtain ⟨h, -⟩ | ⟨h, -⟩ := s.judgePoolLow.resumePeer_cases
  · rw [h]; rfl
  · rw [h]

theorem State.settlePool_pool (s : State) : s.settlePool.pool = { s.pool with level := s.levelNow } := by
  unfold State.settlePool
  rw [State.resumePeer_pool, State.judgePoolLow_eq]
  split <;> rfl

theorem State.settlePool_engine_eq (s : State) :
    s.settlePool.engine = s.engine.letGo (s.params.resume ≤ s.sharedFree) := by
  have hcases := s.judgePoolLow.resumePeer_cases
  simp only [State.judgePoolLow_engine, State.judgePoolLow_params, State.sharedFree_judgePoolLow] at hcases
  unfold State.settlePool Engine.letGo
  obtain ⟨h, hh⟩ | ⟨h, hh⟩ := hcases
  · rw [h, if_pos (by simpa using hh)]
  · rw [h, if_neg (by simpa using hh), State.judgePoolLow_engine]

theorem State.port_settlePool_eq (s : State) (q : Port) :
    s.settlePool.port q =
      { s.port q with events := (s.port q).events.raised (Event.poolLow.bitIf s.fallsLow) } := by
  unfold State.settlePool
  rw [State.port_resumePeer, State.judgePoolLow_eq]
  cases s.fallsLow
  · simp [State.recordLevel, State.port]
  · rw [if_pos rfl]
    show (s.raiseAll .poolLow).port q = _
    rw [State.port_raiseAll, PortState.raise_eq_raised]
    rfl

/-- Judging the pool changes the recorded level, the event units and the halting of the peer (R15, R113). -/
theorem State.settlePool_eq (s : State) :
    s.settlePool =
      { s with pool := s.settlePool.pool, ports := s.settlePool.ports, engine := s.settlePool.engine } := by
  have hresumed := s.judgePoolLow.resumePeer_cases
  unfold State.settlePool
  rw [State.judgePoolLow_eq] at *
  obtain ⟨h, -⟩ | ⟨h, -⟩ := hresumed <;> rw [h] <;> split <;> rfl

/-- Settles O26: level, event units and engine after the judgement, read off their equations. -/
theorem poolIsJudged : Obligations.PoolIsJudged := by
  intro s q
  refine ⟨rfl, ?_, ?_⟩
  · have hengine : s.settlePool.engine =
        if s.engine.haltingPeer = true ∧ s.params.resume ≤ s.sharedFree then
          { s.engine with haltingPeer := false, flowOwed := .go }
        else s.engine := by
      rw [State.settlePool_engine_eq]
      simp [Engine.letGo]
    rw [← hengine]
    refine s.settlePool_eq.trans ?_
    rw [State.settlePool_pool]
    rfl
  · rw [State.port_settlePool_eq]
    by_cases h : s.pool.level = .atOrAbove ∧ s.sharedFree < s.params.poolLow
    · have hfalls : s.fallsLow = true := by simpa [State.fallsLow] using h
      rw [if_pos h, hfalls, Event.bitIf_true, EventUnit.raised, if_neg Event.poolLow.bit_ne_zero]
    · have hfalls : s.fallsLow = false := by simpa [State.fallsLow] using h
      rw [if_neg h, hfalls, Event.bitIf_false, EventUnit.raised_zero]

/-! ### The payer -/

theorem State.roomSet_has {s : State} {targets : HostSet} {q : Port} :
    (s.roomSet targets).has q = true ↔ targets.has q = true ∧ (s.port q).rx.records.length < 32 := by
  unfold State.roomSet
  rw [HostSet.has_ofPorts, Bool.and_eq_true, PortState.hasRoom, decide_eq_true_iff, Config.rxPlaces]

theorem Port.all_pairwise : Port.all.Pairwise fun q r => q.toNat < r.toNat := by decide

theorem Port.ports_pairwise (h : HostSet) : h.ports.Pairwise fun q r => q.toNat < r.toNat :=
  Port.all_pairwise.filter _

/-- Settles O27: the first able target in number order is the lowest-numbered one. -/
theorem payerChoice : Obligations.PayerChoice := by
  intro s k targets p q room able
  have hable (r : Port) : able r ↔ r ∈ room.ports ∧ (s.port r).canPay k = true := by
    rw [HostSet.mem_ports, State.roomSet_has]
    simp [able, PortState.canPay, and_assoc]
  refine ⟨State.roomSet_has, ?_, fun h => if_pos h, fun h => if_neg (by simp [h])⟩
  have hfirst : s.choosePayer k room none = some q ↔ _ := find?_eq_some_iff_least (Port.ports_pairwise room)
  rw [hfirst]
  simp only [hable]
  exact ⟨fun ⟨hq, hpay, hleast⟩ => ⟨⟨hq, hpay⟩, fun r hr => hleast r hr.1 hr.2⟩,
    fun ⟨⟨hq, hpay⟩, hleast⟩ => ⟨hq, hpay, fun r hr hrpay => hleast r ⟨hr, hrpay⟩⟩⟩

end Machine
end Sys2Proof
end

section
/-! SUPPORT. Delivery (R12, R13, R123, R35): what it does to each port, to the frame store and to the pool. -/

namespace Sys2Proof.Machine

/-! ### One change for each of several ports -/

/-- Several ports are changed one after the other, each once: a port of the list is changed, and no other. -/
theorem State.port_foldl_modPort (f : Port → PortState → PortState) {l : List Port} (hl : l.Nodup) (s : State)
    (q : Port) :
    (l.foldl (fun t r => t.modPort r (f r)) s).port q = if q ∈ l then f q (s.port q) else s.port q := by
  induction l generalizing s with
  | nil => rfl
  | cons r l ih =>
    obtain ⟨hr, hl⟩ := List.nodup_cons.mp hl
    rw [List.foldl_cons, ih hl, State.port_modPort]
    by_cases hq : q = r
    · subst hq
      simp [hr]
    · simp [hq]

theorem State.foldl_modPort_eq (f : Port → PortState → PortState) (l : List Port) (s : State) :
    l.foldl (fun t r => t.modPort r (f r)) s =
      { s with ports := (l.foldl (fun t r => t.modPort r (f r)) s).ports } := by
  induction l generalizing s with
  | nil => rfl
  | cons r l ih =>
    rw [List.foldl_cons, ih]
    rfl

/-! ### The parts of a delivery -/

theorem PortState.appendRecord_eq (ps : PortState) (r : RxRecord) :
    ps.appendRecord r =
      { ps with
        rx :=
          { ps.rx with
            records := ps.rx.records ++ [r]
            markState := if ps.rx.high ≤ ps.rx.records.length + 1 then .above else ps.rx.markState }
        events :=
          ps.events.raised
            (Event.rxReady.bit |||
              Event.rxHigh.bitIf (ps.rx.markState == .below && ps.rx.high ≤ ps.rx.records.length + 1)) } := by
  by_cases h : ps.rx.markState = .below ∧ ps.rx.high ≤ (ps.rx.records ++ [r]).length
  · rw [PortState.appendRecord_high h]
    rw [List.length_append, List.length_singleton] at h
    simp [PortState.raise_eq_raised, EventUnit.raised_raised, h]
  · rw [PortState.appendRecord_not_high h]
    rw [List.length_append, List.length_singleton] at h
    cases hmark : ps.rx.markState with
    | below => simp [PortState.raise_eq_raised, hmark, not_and.mp h hmark]
    | above => simp [PortState.raise_eq_raised, hmark, show (MarkState.above == .below) = false from rfl]

theorem PortState.refuse_eq (ps : PortState) (r : LastRefusal) :
    ps.refuse r =
      { ps with
        rx := { ps.rx with lastRefusal := some r }, events := ps.events.raised Event.rxRefused.bit } := by
  unfold PortState.refuse
  rw [PortState.raise_eq_raised]

/-- What a port pays and is paid for when the payment of k cells goes from a sender, or from the inbound account, to a
payer (R12, R13). -/
def paidOver (k : Nat) (sender payer : Option Port) (q : Port) (ps : PortState) : PortState :=
  { ps with
    holdings :=
      ps.holdings - (if sender = some q ∧ payer ≠ some q then k else 0) +
        (if payer = some q ∧ sender ≠ some q then k else 0) }

theorem State.port_chargePayer (s : State) (sender : Option Port) (payer : Port) (k : Nat) (q : Port) :
    (s.chargePayer sender payer k).port q = paidOver k sender (some payer) q (s.port q) := by
  cases sender with
  | none =>
    show (s.modPort payer fun ps => { ps with holdings := ps.holdings + k }).port q = _
    rw [State.port_modPort]
    by_cases hq : q = payer
    · subst hq; simp [paidOver]
    · simp [paidOver, hq, Ne.symm hq]
  | some p =>
    unfold State.chargePayer
    dsimp only
    split
    · next h => subst h; simp [paidOver]
    · next h =>
      unfold State.movePayment
      rw [State.port_modPort, State.port_modPort]
      by_cases hp : q = p
      · subst hp; simp [paidOver, h, Ne.symm h]
      · by_cases hq : q = payer
        · subst hq; simp [paidOver, h, hp]
        · simp [paidOver, hp, hq, Ne.symm hp, Ne.symm hq]

theorem State.port_refundAccount (s : State) (sender : Option Port) (f : Frame) (q : Port) :
    (s.refundAccount sender f).port q = paidOver f.cellCount sender none q (s.port q) := by
  cases sender with
  | none => simp [paidOver, State.refundAccount, State.port]
  | some p =>
    show (s.modPort p fun ps => { ps with holdings := ps.holdings - cellsOf [f] }).port q = _
    rw [State.port_modPort]
    by_cases hq : q = p
    · subst hq; simp [paidOver, cellsOf]
    · simp [paidOver, hq, Ne.symm hq]

/-- The pool once payment has passed to a payer, or the cells are freed (R12, R13). -/
theorem State.chargePayer_eq (s : State) (sender : Option Port) (payer : Port) (k : Nat) :
    s.chargePayer sender payer k =
      { s with
        pool := { s.pool with inbound := s.pool.inbound - (if sender = none then k else 0) }
        ports := (s.chargePayer sender payer k).ports } := by
  cases sender with
  | none => rfl
  | some p =>
    unfold State.chargePayer
    dsimp only
    split <;> rfl

theorem State.refundAccount_eq (s : State) (sender : Option Port) (f : Frame) :
    s.refundAccount sender f =
      { s with
        pool :=
          { s.pool with
            free := s.pool.free + f.cellCount, inbound := s.pool.inbound - (if sender = none then f.cellCount else 0)
            freeCells := s.pool.freeCells ++ f.cells }
        ports := (s.refundAccount sender f).ports } := by
  cases sender with
  | none => rfl
  | some p =>
    simp [State.refundAccount, State.returnFrames, cellsOf]

/-! ### The frame store -/

theorem le_foldr_max {l : List Nat} {n : Nat} (h : n ∈ l) : n ≤ l.foldr max 0 := by
  induction l with
  | nil => cases h
  | cons a l ih =>
    rw [List.foldr_cons]
    obtain rfl | h := List.mem_cons.mp h
    · exact Nat.le_max_left _ _
    · exact (ih h).trans (Nat.le_max_right _ _)

/-- No frame of the store has the number that the next one takes. -/
theorem State.freshFrame_not_mem (s : State) : s.freshFrame ∉ s.frames.map (·.1) := fun h =>
  absurd (le_foldr_max h) (Nat.not_succ_le_self _)

theorem State.frame?_eq_none {s : State} {n : Nat} : s.frame? n = none ↔ n ∉ s.frames.map (·.1) := by
  simp [State.frame?, List.find?_eq_none]
  grind

/-! ### Delivery -/

section
variable (s : State) (f : Frame) (targets : HostSet) (source : Source) (first : Option Nat) (sender : Option Port)

/-- The record that every target with room gets (R137, R138). -/
def State.deliveryRecord : RxRecord :=
  { frame := s.freshFrame, length := f.length, source := source, cls := f.classNo, first := first
    delivered := s.roomSet targets }

/-- The part with a delivered frame added to the store. -/
def State.withFrame (t : State) (n : Nat) (f : Frame) : State := { t with frames := t.frames ++ [(n, f)] }

variable {s f targets source first sender}

theorem State.deliver_of_payer {y : Port} (h : s.choosePayer f.cellCount (s.roomSet targets) sender = some y) :
    s.deliver f targets source first sender =
      (targets &&& ~~~(s.roomSet targets)).ports.foldl
        (fun t q => t.modPort q (·.refuse { reason := .room, source := source }))
        ((s.roomSet targets).ports.foldl
          (fun t q => t.modPort q (·.appendRecord (s.deliveryRecord f targets source first)))
          ((s.chargePayer sender y f.cellCount).settlePool.withFrame s.freshFrame
            { f with
              state := .delivered, refs := some (s.roomSet targets).ports.length, payer := some y })) := by
  have hframes : (s.chargePayer sender y f.cellCount).settlePool.frames = s.frames := by
    rw [State.settlePool_frames, State.chargePayer_eq]
  have hfresh : (s.chargePayer sender y f.cellCount).settlePool.freshFrame = s.freshFrame := by
    unfold State.freshFrame
    rw [hframes]
  simp only [State.deliver, h, hfresh]
  rfl

theorem State.deliver_of_no_payer (h : s.choosePayer f.cellCount (s.roomSet targets) sender = none) :
    s.deliver f targets source first sender =
      targets.ports.foldl
        (fun t q =>
          t.modPort q
            (·.refuse { reason := if (s.roomSet targets).has q then .ceiling else .room, source := source }))
        (s.refundAccount sender f).settlePool := by
  simp only [State.deliver, h]
  rfl

end

/-- What a delivery does to a port besides its payment (R123, R138, R143): the record where it is given, a refusal where
a target gets none. -/
def deliveredTo (record : RxRecord) (given target : Bool) (refusal : LastRefusal) (ps : PortState) : PortState :=
  if given then ps.appendRecord record else if target then ps.refuse refusal else ps

theorem deliveredTo_eq (record : RxRecord) (given target : Bool) (refusal : LastRefusal) (ps : PortState) :
    deliveredTo record given target refusal ps =
      { ps with
        rx :=
          { ps.rx with
            records := if given = true then ps.rx.records ++ [record] else ps.rx.records
            markState :=
              if given = true ∧ ps.rx.high ≤ ps.rx.records.length + 1 then .above else ps.rx.markState
            lastRefusal := if target = true ∧ given = false then some refusal else ps.rx.lastRefusal }
        events :=
          ps.events.raised
            (Event.rxReady.bitIf given |||
              Event.rxHigh.bitIf
                (given && ps.rx.markState == .below && ps.rx.high ≤ ps.rx.records.length + 1) |||
              Event.rxRefused.bitIf (target && !given)) } := by
  unfold deliveredTo
  cases given <;> cases target
  case true.true => simp [PortState.appendRecord_eq]
  case true.false => simp [PortState.appendRecord_eq]
  case false.true => simp [PortState.refuse_eq]
  case false.false => simp

theorem deliveredTo_reservation (record : RxRecord) (given target : Bool) (refusal : LastRefusal) (ps : PortState) :
    (deliveredTo record given target refusal ps).reservation = ps.reservation := by
  rw [deliveredTo_eq]
  rfl

/-- The state in which a delivery has its pool judged: payment passed on or refunded (R12, R13). -/
def State.settledAccount (s : State) (f : Frame) (targets : HostSet) (sender : Option Port) : State :=
  match s.choosePayer f.cellCount (s.roomSet targets) sender with
  | some y => s.chargePayer sender y f.cellCount
  | none => s.refundAccount sender f

/-- The frame store after a delivery (R14, R136). -/
def State.storedFrames (s : State) (f : Frame) (targets : HostSet) (sender : Option Port) : List (Nat × Frame) :=
  match s.choosePayer f.cellCount (s.roomSet targets) sender with
  | some y =>
    s.frames ++
      [(s.freshFrame,
        { f with state := .delivered, refs := some (s.roomSet targets).ports.length, payer := some y })]
  | none => s.frames

/-- A delivery: the accounts settled and the pool judged, the frame stored, and each port told (R123, R35). -/
theorem State.deliver_eq (s : State) (f : Frame) (targets : HostSet) (source : Source) (first : Option Nat)
    (sender : Option Port) :
    let t := s.deliver f targets source first sender
    let settled := (s.settledAccount f targets sender).settlePool
    let given := (s.deliveredSet f.cellCount targets sender)
    t = { settled with ports := t.ports, frames := s.storedFrames f targets sender } ∧
      ∀ q, t.port q =
        deliveredTo (s.deliveryRecord f targets source first) (given.has q) (targets.has q)
          { reason := if (s.roomSet targets).has q then .ceiling else .room, source := source } (settled.port q) := by
  intro t settled given
  cases h : s.choosePayer f.cellCount (s.roomSet targets) sender with
  | some y =>
    have hsettled : settled = (s.chargePayer sender y f.cellCount).settlePool := by
      simp only [settled, State.settledAccount, h]
    have hgiven : given = s.roomSet targets := by simp only [given, State.deliveredSet, h]
    have hframes : settled.frames = s.frames := by
      rw [hsettled, State.settlePool_frames, State.chargePayer_eq]
    have ht : t = _ := State.deliver_of_payer h
    rw [← hsettled] at ht
    refine ⟨?_, fun q => ?_⟩
    · rw [ht, State.foldl_modPort_eq, State.foldl_modPort_eq]
      simp only [State.withFrame, State.storedFrames, h, hframes]
    · rw [ht, State.port_foldl_modPort (fun _ ps => ps.refuse _) (HostSet.nodup_ports _),
        State.port_foldl_modPort (fun _ ps => ps.appendRecord _) (HostSet.nodup_ports _), hgiven]
      simp only [HostSet.mem_ports, HostSet.has_and_not, deliveredTo]
      cases hroom : (s.roomSet targets).has q
      · simp [State.withFrame, State.port]
      · simp [State.withFrame, State.port]
  | none =>
    have hsettled : settled = (s.refundAccount sender f).settlePool := by
      simp only [settled, State.settledAccount, h]
    have hgiven : given = 0#4 := by simp only [given, State.deliveredSet, h]
    have hframes : settled.frames = s.frames := by
      rw [hsettled, State.settlePool_frames, State.refundAccount_eq]
    have ht : t = _ := State.deliver_of_no_payer h
    rw [← hsettled] at ht
    refine ⟨?_, fun q => ?_⟩
    · rw [ht, State.foldl_modPort_eq]
      simp only [State.storedFrames, h, ← hframes]
    · rw [ht, State.port_foldl_modPort
          (fun q ps => ps.refuse { reason := if (s.roomSet targets).has q then .ceiling else .room, source := source })
          (HostSet.nodup_ports _), hgiven]
      simp [HostSet.mem_ports, deliveredTo, HostSet.has_empty]

/-- The accounts after a delivery (R12, R13). -/
theorem State.settledAccount_eq (s : State) (f : Frame) (targets : HostSet) (sender : Option Port) :
    let payer := s.choosePayer f.cellCount (s.roomSet targets) sender
    let t := s.settledAccount f targets sender
    t = { s with pool := t.pool, ports := t.ports } ∧
      t.pool =
        { s.pool with
          free := s.pool.free + (if payer = none then f.cellCount else 0)
          inbound := s.pool.inbound - (if sender = none then f.cellCount else 0)
          freeCells := if payer = none then s.pool.freeCells ++ f.cells else s.pool.freeCells } ∧
      ∀ q, t.port q = paidOver f.cellCount sender payer q (s.port q) := by
  intro payer t
  cases h : s.choosePayer f.cellCount (s.roomSet targets) sender with
  | some y =>
    have ht : t = s.chargePayer sender y f.cellCount := by simp only [t, State.settledAccount, h]
    have hpayer : payer = some y := h
    rw [ht, hpayer]
    refine ⟨?_, ?_, fun q => State.port_chargePayer s sender y _ q⟩
    · rw [State.chargePayer_eq]
    · rw [State.chargePayer_eq]
      simp
  | none =>
    have ht : t = s.refundAccount sender f := by simp only [t, State.settledAccount, h]
    have hpayer : payer = none := h
    rw [ht, hpayer]
    refine ⟨?_, ?_, fun q => State.port_refundAccount s sender f q⟩
    · rw [State.refundAccount_eq]
    · rw [State.refundAccount_eq]
      simp

/-- A delivery reaches the pool, the ports, the frame store and the engine alone. -/
theorem State.deliver_frame (s : State) (f : Frame) (targets : HostSet) (source : Source) (first : Option Nat)
    (sender : Option Port) :
    let t := s.deliver f targets source first sender
    t = { s with pool := t.pool, ports := t.ports, frames := t.frames, engine := t.engine } := by
  intro t
  have ht : t = _ := (s.deliver_eq f targets source first sender).1
  have hsettled := (s.settledAccount_eq f targets sender).1
  generalize s.settledAccount f targets sender = v at ht hsettled
  have hv : v.settlePool =
      { s with pool := v.settlePool.pool, ports := v.settlePool.ports, engine := v.settlePool.engine } := by
    refine v.settlePool_eq.trans ?_
    rw [hsettled]
  rw [ht, hv]

/-- Shared free after a delivery is that of the settled accounts. -/
theorem State.sharedFree_deliver (s : State) (f : Frame) (targets : HostSet) (source : Source) (first : Option Nat)
    (sender : Option Port) :
    (s.deliver f targets source first sender).sharedFree = (s.settledAccount f targets sender).sharedFree := by
  obtain ⟨ht, hport⟩ := s.deliver_eq f targets source first sender
  rw [← (s.settledAccount f targets sender).sharedFree_settlePool]
  refine State.sharedFree_congr (by rw [ht]) fun q => ?_
  rw [hport, deliveredTo_reservation]

/-- Settles O28: the accounts, the judgement of the pool and what each port is told, put together. -/
theorem delivery : Obligations.Delivery := by
  intro s f targets source first sender q t k room payer given record
  obtain ⟨ht, hport⟩ := s.deliver_eq f targets source first sender
  obtain ⟨hsettled, hpool, hpaid⟩ := s.settledAccount_eq f targets sender
  have hshared : t.sharedFree = _ := s.sharedFree_deliver f targets source first sender
  have hgiven : given = s.deliveredSet f.cellCount targets sender :=
    (s.deliveredSet_eq f.cellCount targets sender).symm
  have hparams : t.params = s.params := by
    show (s.deliver f targets source first sender).params = _
    rw [ht, State.settlePool_params, hsettled]
  have hsettledParams : (s.settledAccount f targets sender).params = s.params := by rw [hsettled]
  have hlevel : (s.settledAccount f targets sender).pool.level = s.pool.level := by rw [hpool]
  have hfalls : (s.settledAccount f targets sender).fallsLow = fellLow s t := by
    unfold State.fallsLow fellLow
    rw [hshared, hparams, hlevel, hsettledParams]
  have hlevelNow : (s.settledAccount f targets sender).levelNow = t.levelNow := by
    unfold State.levelNow
    rw [hshared, hparams, hsettledParams]
  refine ⟨?_, ?_, State.frame?_eq_none.mpr s.freshFrame_not_mem, ?_, ?_⟩
  · rw [show t.port q = _ from hport q, ← hgiven, deliveredTo_eq, State.port_settlePool_eq, hpaid, hfalls]
    simp only [paidOver, EventUnit.raised_raised, BitVec.or_comm (Event.poolLow.bitIf _)]
    rfl
  · show (s.deliver f targets source first sender).frames = _
    rw [ht]
    rfl
  · show (s.deliver f targets source first sender).pool = _
    rw [ht]
    show (s.settledAccount f targets sender).settlePool.pool = _
    rw [State.settlePool_pool, hpool, hlevelNow]
    rfl
  · have hengine : t.engine = s.engine.letGo (s.params.resume ≤ t.sharedFree) := by
      show (s.deliver f targets source first sender).engine = _
      rw [ht]
      show (s.settledAccount f targets sender).settlePool.engine = _
      rw [State.settlePool_engine_eq, hshared, hsettled]
    rw [← hengine]
    exact s.deliver_frame f targets source first sender

end Sys2Proof.Machine
end

section
/-! SUPPORT. Delivery, the receive line, the timers and the transmit line are quiet: every event of the trunk and of a
timer but the expiry of the lease timer is. -/

namespace Sys2Proof.Machine

section
variable {off : Bool} {s : State}

/-! ### Delivery -/

theorem PortState.Kept.paidOver (k : Nat) (sender payer : Option Port) (q : Port) (ps : PortState) :
    ps.Kept (paidOver k sender payer q ps) := .of_fields _ _ _ _ _ _ _

theorem State.settledAccount_mild (s : State) (f : Frame) (targets : HostSet) (sender : Option Port) :
    Mild off s (s.settledAccount f targets sender) := by
  obtain ⟨heq, -, hport⟩ := s.settledAccount_eq f targets sender
  refine ⟨fun q => hport q ▸ .paidOver _ _ _ q _, ?_, ?_, ?_, ?_, ?_, .inl ?_⟩ <;> rw [heq]
  · exact .refl _
  · exact id
  · exact id

theorem State.deliveredSet_room {s : State} {k : Nat} {targets : HostSet} {sender : Option Port} {q : Port}
    (h : (s.deliveredSet k targets sender).has q = true) : (s.roomSet targets).has q = true := by
  unfold State.deliveredSet at h
  split at h
  · exact h
  · rw [HostSet.has_empty] at h
    cases h

theorem State.deliver_quiet (s : State) (f : Frame) (targets : HostSet) (source : Source) (first : Option Nat)
    (sender : Option Port) : Quiet off s (s.deliver f targets source first sender) := by
  refine Quiet.after ?_ (s.settledAccount_mild f targets sender).settlePool
  obtain ⟨heq, hport⟩ := s.deliver_eq f targets source first sender
  have hroom (q : Port) (h : (s.deliveredSet f.cellCount targets sender).has q = true) :
      ((s.settledAccount f targets sender).settlePool.port q).hasRoom = true := by
    have hlength := (State.roomSet_has.mp (State.deliveredSet_room h)).2
    rw [PortState.hasRoom, State.settlePool_rx, (s.settledAccount_eq f targets sender).2.2]
    exact decide_eq_true hlength
  refine ⟨⟨fun q => ?_, ?_, ?_, ?_, ?_, ?_, .inl ?_⟩, fun h => ?_⟩
  · rw [hport]
    unfold deliveredTo
    split
    · exact .appendRecord _ _ (hroom q ‹_›)
    · split
      · exact .refuse _ _
      · exact .refl _
  · rw [heq]
  · rw [heq]
  · rw [heq]; exact .refl _
  · rw [heq]; exact id
  · rw [heq]; exact id
  · rw [heq]
  · have hshared : (s.deliver f targets source first sender).sharedFree =
        (s.settledAccount f targets sender).settlePool.sharedFree := by
      rw [State.sharedFree_deliver, State.sharedFree_settlePool]
    unfold State.LevelLaw at *
    rw [hshared, heq]
    exact h

theorem State.refundAccount_mild (s : State) (sender : Option Port) (f : Frame) :
    Mild off s (s.refundAccount sender f) := by
  refine ⟨fun q => State.port_refundAccount s sender f q ▸ .paidOver _ _ _ q _, ?_, ?_, ?_, ?_, ?_, .inl ?_⟩ <;>
    rw [State.refundAccount_eq]
  · exact .refl _
  · exact id
  · exact id

/-- A change of the classifier that keeps its tables and counters sound is quiet. -/
theorem quiet_withClassifier (s : State) {c : Classifier} (h : s.classifier.Kept c) :
    Quiet off s { s with classifier := c } :=
  ⟨⟨fun _ => .refl _, rfl, rfl, h, id, id, .inl rfl⟩, id⟩

theorem saturatingSucc_le {n : Nat} (h : n ≤ Config.counterMax) : saturatingSucc n ≤ Config.counterMax := by
  unfold saturatingSucc
  split
  · assumption
  · exact h

theorem State.raise_quiet (s : State) (p : Port) (e : Event) : Quiet off s (s.raise p e) :=
  quiet_modPort (.raise _ e) rfl

theorem State.unclaimedFrame_quiet (s : State) (f : Frame) : Quiet off s (s.unclaimedFrame f) := by
  have counted := (quiet_withClassifier (off := off) (s.refundAccount none f).settlePool
    (c := Classifier.countUnclaimed _) ⟨rfl, rfl, rfl, id, saturatingSucc_le⟩).after
    (s.refundAccount_mild none f).settlePool
  unfold State.unclaimedFrame
  dsimp only
  split
  · exact counted.trans (State.raise_quiet _ _ _)
  · exact counted

/-- A scan changes hit counters alone: an entry that matches is in use, and its counter stays in 16 bits (R119). -/
theorem scanFrom_kept (address : Word) (i : Nat) (l : List ActiveEntry) :
    (scanFrom address i l).entries.map (·.entry) = l.map (·.entry) ∧
      ((∀ a ∈ l, (a.entry.inUse = false → a.hits = 0) ∧ a.hits ≤ Config.counterMax) →
        ∀ a ∈ (scanFrom address i l).entries,
          (a.entry.inUse = false → a.hits = 0) ∧ a.hits ≤ Config.counterMax) := by
  induction l generalizing i with
  | nil => exact ⟨rfl, id⟩
  | cons a l ih =>
    obtain ⟨hentries, hhits⟩ := ih (i + 1)
    have counted (hhit : a.entry.hit address = true)
        (ha : (a.entry.inUse = false → a.hits = 0) ∧ a.hits ≤ Config.counterMax) :
        (a.counted.entry.inUse = false → a.counted.hits = 0) ∧ a.counted.hits ≤ Config.counterMax := by
      refine ⟨fun hfree => ?_, saturatingSucc_le ha.2⟩
      exact absurd ((TableEntry.hit_iff _ _).mp hhit).1 (Bool.eq_false_iff.mp hfree)
    cases hhit : a.entry.hit address with
    | false =>
      rw [scanFrom_cons_misses _ _ hhit]
      exact ⟨by simp [hentries], fun h => List.forall_mem_cons.mpr
        ⟨(List.forall_mem_cons.mp h).1, hhits (List.forall_mem_cons.mp h).2⟩⟩
    | true =>
      cases hstop : a.entry.stop with
      | true =>
        rw [scanFrom_cons_ends _ _ hhit hstop]
        exact ⟨by simp [ActiveEntry.counted], fun h => List.forall_mem_cons.mpr
          ⟨counted hhit (List.forall_mem_cons.mp h).1, (List.forall_mem_cons.mp h).2⟩⟩
      | false =>
        rw [scanFrom_cons_goes_on _ _ hhit hstop]
        exact ⟨by simp [ActiveEntry.counted, hentries], fun h => List.forall_mem_cons.mpr
          ⟨counted hhit (List.forall_mem_cons.mp h).1, hhits (List.forall_mem_cons.mp h).2⟩⟩

theorem State.scanned_quiet (s : State) (address : Word) : Quiet off s (s.scanned address) :=
  quiet_withClassifier s
    ⟨(scanFrom_kept address 0 _).1, rfl, rfl, (scanFrom_kept address 0 _).2, id⟩

theorem State.classify_quiet (s : State) (f : Frame) (address : Word) : Quiet off s (s.classify f address) := by
  have scanned := s.scanned_quiet (off := off) address
  by_cases h : (scanFrom address 0 s.classifier.active).hosts = 0#4
  · by_cases hdefault : s.params.defaultHostSet = 0#4
    · rw [State.classify_of_unclaimed f h hdefault]
      exact scanned.trans (State.unclaimedFrame_quiet _ _)
    · rw [State.classify_of_default f h hdefault]
      exact scanned.trans (State.deliver_quiet _ _ _ _ _ _)
  · rw [State.classify_of_claimed f h]
    exact scanned.trans (State.deliver_quiet _ _ _ _ _ _)

/-! ### The receive line -/

theorem State.invalidFrame_quiet (s : State) : Quiet off s s.invalidFrame := by
  refine Quiet.after ?_ s.releaseInbound_quiet
  exact ⟨⟨fun _ => .refl _, rfl, rfl, .refl _, saturatingSucc_le, id, .inl rfl⟩, id⟩

theorem State.abandonFrame_quiet (s : State) : Quiet off s s.abandonFrame :=
  s.releaseInbound_quiet.trans (quiet_of_eq rfl rfl rfl rfl rfl rfl rfl rfl rfl)

theorem State.grantInbound_quiet (s : State) : Quiet off s s.grantInbound :=
  Mild.settlePool ⟨fun _ => .refl _, rfl, rfl, .refl _, id, id, .inl rfl⟩

theorem State.keepOctet_quiet (s : State) (b : Byte) : Quiet off s (s.keepOctet b) := quiet_withFramer s _ rfl

theorem State.storeOctet_quiet (s : State) (b : Byte) : Quiet off s (s.storeOctet b) := by
  unfold State.storeOctet
  split_ifs
  · exact s.grantInbound_quiet.trans (State.keepOctet_quiet _ b)
  · exact s.abandonFrame_quiet
  · exact s.keepOctet_quiet b

theorem State.holdOctet_quiet (s : State) (b : Byte) : Quiet off s (s.holdOctet b) := by
  unfold State.holdOctet
  split
  · next x y _ =>
    have held : Quiet off s { s with framer := { s.framer with hold := [y, b] } } := quiet_withFramer s _ rfl
    exact quiet_ite (held.trans (State.storeOctet_quiet _ x)) held
  · exact quiet_withFramer s _ rfl

theorem State.judgeAdmission_quiet (s : State) : Quiet off s s.judgeAdmission := quiet_withFramer s _ rfl

/-- The framer with one more frame octet counted, checked and, of the first four, kept (R61, R62). -/
def Framer.takeOctet (f : Framer) (b : Byte) : Framer :=
  { f with
    count := f.count + 1, crc := checkOctet f.crc b
    header := if f.header.length < 4 then f.header ++ [b] else f.header }

/-- One frame octet: taken by the framer, and then the end of an over-length frame, the admission at the fourth octet
of a DATA frame, or the hold stage behind it (R61, R67, R70). -/
theorem State.frameOctet_eq (s : State) (b : Byte) :
    s.frameOctet b =
      let g := s.framer.takeOctet b
      if 519 ≤ g.count then State.invalidFrame { s with framer := { g with rxState := .hunting } }
      else if g.type? = some .data then
        if g.count = 4 then State.judgeAdmission { s with framer := g }
        else if 4 < g.count then State.holdOctet { s with framer := g } b
        else { s with framer := g }
      else { s with framer := g } := rfl

theorem State.frameOctet_quiet (s : State) (b : Byte) : Quiet off s (s.frameOctet b) := by
  have taken : Quiet off s { s with framer := s.framer.takeOctet b } := quiet_withFramer s _ rfl
  rw [State.frameOctet_eq]
  dsimp only
  split_ifs
  · exact (State.invalidFrame_quiet _).after (quiet_withFramer s _ rfl)
  · exact taken.trans (State.judgeAdmission_quiet _)
  · exact taken.trans (State.holdOctet_quiet _ b)
  · exact taken
  · exact taken

theorem State.frameLineOctet_quiet (s : State) (o : Byte) : Quiet off s (s.frameLineOctet o) := by
  unfold State.frameLineOctet
  split_ifs
  · exact (State.frameOctet_quiet _ _).after (quiet_withFramer s _ rfl)
  · exact quiet_withFramer s _ rfl
  · exact s.frameOctet_quiet o

theorem State.acceptFrame_quiet (s : State) : Quiet off s s.acceptFrame :=
  (State.classify_quiet _ _ _).after
    ((State.oweAck_quiet _).after (quiet_of_eq rfl rfl rfl rfl rfl rfl rfl rfl rfl))

theorem State.discardData_quiet (s : State) : Quiet off s s.discardData := by
  have released := s.releaseInbound_quiet (off := off)
  unfold State.discardData
  dsimp only
  split_ifs
  · exact released.trans (State.oweAck_quiet _)
  · exact released.trans (State.oweReject_quiet _)
  · exact released
  · exact released.trans (quiet_withEngine _ _ rfl)
  · exact released.trans (State.oweReject_quiet _)

theorem State.dataInUp_quiet (s : State) : Quiet off s s.dataInUp := quiet_ite s.acceptFrame_quiet s.discardData_quiet

theorem State.rejectInUp_quiet (s : State) (n : Seq) : Quiet off s (s.rejectInUp n) := by
  unfold State.rejectInUp
  split_ifs
  · exact .refl off s
  · exact .refl off s
  · exact .refl off s
  · exact s.retryFrom_quiet n

theorem State.haltInUp_quiet (s : State) : Quiet off s s.haltInUp := quiet_withEngine s _ rfl

theorem State.goInUp_quiet (s : State) : Quiet off s s.goInUp := by
  rw [State.goInUp_eq]
  exact quiet_withEngine s _ (by split <;> rfl)

theorem State.hear_quiet (s : State) : Quiet off s s.hear := quiet_withLink s _ rfl

theorem State.frameInUp_quiet (s : State) (t : FrameType) : Quiet off s (s.frameInUp t) := by
  have acked : Quiet off s (s.hear.acknowledge s.framer.ackField) := s.hear_quiet.trans (State.acknowledge_quiet _ _)
  unfold State.frameInUp
  dsimp only
  split
  · cases t
    · exact acked.trans (State.dataInUp_quiet _)
    · exact acked
    · exact acked.trans (State.rejectInUp_quiet _ _)
    · exact acked.trans (State.haltInUp_quiet _)
    · exact acked.trans (State.goInUp_quiet _)
    · exact acked
  · exact s.invalidFrame_quiet

theorem State.helloInUp_quiet (s : State) : Quiet off s s.helloInUp := by
  unfold State.helloInUp
  dsimp only
  split_ifs
  · exact s.leaveUp_quiet _
  · exact (State.leaveUp_quiet _ _).after (quiet_withLink s _ rfl)
  · exact s.hear_quiet
  · exact s.leaveUp_quiet _

theorem State.confirm_quiet (s : State) : Quiet off s s.confirm :=
  have counted : Quiet off s { s with link := { s.link with confCount := s.link.confCount + 1 } } :=
    quiet_withLink s _ rfl
  quiet_ite (counted.trans (State.enterUp_quiet _)) counted

theorem State.helloInConfirming_quiet (s : State) : Quiet off s s.helloInConfirming := by
  unfold State.helloInConfirming
  dsimp only
  split_ifs
  · exact s.loopedBack_quiet
  · exact quiet_withLink s _ rfl
  · exact s.hear_quiet.trans (State.confirm_quiet _)
  · exact quiet_withLink s _ rfl

theorem State.helloInSeeking_quiet (s : State) : Quiet off s s.helloInSeeking :=
  quiet_ite s.loopedBack_quiet (s.enterConfirming_quiet _)

theorem State.handOnHello_quiet (s : State) : Quiet off s s.handOnHello := by
  unfold State.handOnHello
  split
  · exact .refl off s
  · exact s.helloInSeeking_quiet
  · exact s.helloInConfirming_quiet
  · exact s.helloInUp_quiet
  · exact .refl off s

theorem State.handOnFrame_quiet (s : State) (t : FrameType) : Quiet off s (s.handOnFrame t) := by
  unfold State.handOnFrame
  split
  · exact s.releaseInbound_quiet
  · exact s.releaseInbound_quiet
  · exact (s.releaseInbound_quiet.trans (State.hear_quiet _)).trans (State.confirm_quiet _)
  · exact s.frameInUp_quiet t
  · exact s.releaseInbound_quiet

theorem State.closeFrame_quiet (s : State) : Quiet off s s.closeFrame := by
  have closed : Quiet off s { s with framer := { s.framer with rxState := .between, escPending := false } } :=
    quiet_withFramer s _ rfl
  unfold State.closeFrame
  dsimp only
  split
  · split
    · exact closed.trans (State.handOnHello_quiet _)
    · exact closed.trans (State.handOnFrame_quiet _ _)
    · exact closed.trans (State.invalidFrame_quiet _)
  · exact closed.trans (State.invalidFrame_quiet _)

theorem State.markerFound_quiet (s : State) : Quiet off s s.markerFound := by
  rw [State.markerFound_eq]
  split
  · exact quiet_withFramer s _ rfl
  · exact .refl off s

theorem State.clockSeen_quiet (s : State) : Quiet off s { s with framer := s.framer.clockSeen } :=
  quiet_withFramer s _ rfl

theorem State.closeOf_quiet (s : State) (t : Option FrameType) : Quiet off s (s.closeOf t) := by
  unfold State.closeOf
  split
  · exact s.clockSeen_quiet.trans (State.closeFrame_quiet _)
  · exact s.markerFound_quiet

theorem State.lineOctet_quiet (s : State) (o : Byte) : Quiet off s (s.lineOctet o) := by
  have clocked := s.clockSeen_quiet (off := off)
  unfold State.lineOctet
  dsimp only
  split
  · exact .refl off s
  · split
    · exact clocked.trans (quiet_withFramer _ _ rfl)
    · exact clocked
  · split
    · exact clocked.trans (quiet_withFramer _ _ rfl)
    · exact clocked
  · split
    · exact clocked
    · exact (State.frameLineOctet_quiet _ o).after (clocked.trans (quiet_withFramer _ _ rfl))
  · split
    · exact clocked.trans (State.closeFrame_quiet _)
    · exact clocked.trans (State.frameLineOctet_quiet _ o)

theorem State.silence_quiet (s : State) : Quiet off s s.silence := by
  unfold State.silence
  split
  · have cut : Quiet off s
        { s.cutOff .hunting with
          framer :=
            { (s.cutOff .hunting).framer with
              rxState := .hunting, watch := .reported, cut := s.framer.rxState == .receiving } } :=
      (s.cutOff_quiet .hunting).trans (quiet_withFramer _ _ rfl)
    dsimp only
    split
    · exact cut.trans (State.enterSeeking_quiet _)
    · exact cut.trans (State.leaveUp_quiet _ _)
    all_goals exact cut
  · exact .refl off s

/-! ### The timers -/

theorem State.helloExpiry_quiet (s : State) : Quiet off s s.helloExpiry := by
  unfold State.helloExpiry
  split
  · exact .refl off s
  · exact quiet_withLink s _ rfl

theorem State.missedInterval_quiet (s : State) : Quiet off s s.missedInterval := by
  have missed : Quiet off s { s with link := { s.link with lossCount := s.link.lossCount + 1 } } :=
    quiet_withLink s _ rfl
  unfold State.missedInterval
  dsimp only
  split
  · split
    · exact missed.trans (State.enterSeeking_quiet _)
    · exact missed.trans (State.leaveUp_quiet _ _)
    all_goals exact missed
  · exact missed

theorem State.intervalExpiry_quiet (s : State) : Quiet off s s.intervalExpiry := by
  unfold State.intervalExpiry
  split
  · exact .refl off s
  · dsimp only
    split
    · exact quiet_withLink s _ rfl
    · exact (State.missedInterval_quiet _).after (quiet_withLink s _ rfl)

theorem State.holdOffExpiry_quiet (s : State) : Quiet off s s.holdOffExpiry := by
  unfold State.holdOffExpiry
  split
  · exact .refl off s
  · exact quiet_ite s.enterSeeking_quiet (.refl off s)

theorem State.flushTimerExpiry_quiet (s : State) : Quiet off s s.flushTimerExpiry := by
  unfold State.flushTimerExpiry
  split
  · exact .refl off s
  · exact s.flushExpiry_quiet

theorem State.ackTimerExpiry_quiet (s : State) : Quiet off s s.ackTimerExpiry := by
  unfold State.ackTimerExpiry
  split
  · exact s.retryFrom_quiet _
  · exact .refl off s

theorem State.ackDelayExpiry_quiet (s : State) : Quiet off s s.ackDelayExpiry := by
  unfold State.ackDelayExpiry
  split
  · exact quiet_withEngine s _ rfl
  · exact .refl off s
  · exact .refl off s

theorem State.haltTimerExpiry_quiet (s : State) : Quiet off s s.haltTimerExpiry := by
  unfold State.haltTimerExpiry
  split
  · exact s.leaveUp_quiet _
  · exact .refl off s

/-! ### The transmit line -/

theorem State.deferTo_quiet (s : State) (w : Port) : Quiet off s (s.deferTo w) := by
  have hport (q : Port) : ∃ d, (s.deferTo w).port q = { s.port q with deferred := d } := by
    unfold State.deferTo State.port
    dsimp only
    rw [PerPort.get_set, PerPort.get_map]
    split
    · next h => subst h; exact ⟨_, rfl⟩
    · exact ⟨_, rfl⟩
  refine ⟨⟨fun q => ?_, rfl, rfl, .refl _, id, id, .inl rfl⟩, fun h => ?_⟩
  · obtain ⟨d, hq⟩ := hport q
    rw [hq]
    exact .of_fields _ _ _ _ _ _ _
  · have hshared : (s.deferTo w).sharedFree = s.sharedFree := State.sharedFree_congr rfl fun q => by
      obtain ⟨d, hq⟩ := hport q
      rw [hq]
      rfl
    unfold State.LevelLaw
    rw [hshared]
    exact h

theorem State.admitToWindow_quiet (s : State) (w : Port) : Quiet off s (s.admitToWindow w) := by
  unfold State.admitToWindow
  split
  · exact .refl off s
  · next f rest _ =>
    exact (State.startFrame_quiet _ _ _).after ((quiet_queue s w fun _ => rest).trans (quiet_withEngine _ _ rfl))

theorem State.arbitrate_quiet (s : State) : Quiet off s s.arbitrate := by
  unfold State.arbitrate
  split
  · split
    · exact (s.deferTo_quiet _).trans (State.admitToWindow_quiet _ _)
    · exact .refl off s
  · exact .refl off s

theorem State.resendEntry_quiet (s : State) (r : Round) (x : WindowEntry) : Quiet off s (s.resendEntry r x) := by
  refine (State.startFrame_quiet _ _ _).after ?_
  exact ⟨⟨fun _ => .refl _, rfl, rfl, .refl _, id, saturatingSucc_le, .inl rfl⟩, id⟩

theorem State.roundSend_quiet (s : State) : Quiet off s s.roundSend := by
  unfold State.roundSend
  split
  · split
    · exact .refl off s
    · split
      · exact s.resendEntry_quiet _ _
      · exact .refl off s
  · exact .refl off s

theorem State.rejectSend_quiet (s : State) : Quiet off s s.rejectSend := by
  unfold State.rejectSend
  split
  · exact (State.startFrame_quiet _ _ _).after (quiet_withEngine s _ rfl)
  · exact .refl off s

theorem State.flowSend_quiet (s : State) (which : FlowFrame) (kind : FrameType) (code : BitVec 4) :
    Quiet off s (s.flowSend which kind code) := by
  unfold State.flowSend
  split
  · exact (State.startFrame_quiet _ _ _).after (quiet_withEngine s _ rfl)
  · exact .refl off s

theorem State.ackSend_quiet (s : State) : Quiet off s s.ackSend :=
  quiet_ite (s.startFrame_quiet _ _) (.refl off s)

theorem State.helloSend_quiet (s : State) : Quiet off s s.helloSend := by
  unfold State.helloSend
  split
  · exact (State.startFrame_quiet _ _ _).after (quiet_withLink s _ rfl)
  · exact .refl off s

theorem State.restartIdleTimer_quiet (s : State) : Quiet off s s.restartIdleTimer := by
  unfold State.restartIdleTimer
  split
  · exact quiet_withLink s _ rfl
  · exact .refl off s

theorem State.transmissionEnd_quiet (s : State) : Quiet off s s.transmissionEnd := by
  unfold State.transmissionEnd
  split
  · exact .refl off s
  · exact (s.endTransmission_quiet _).trans (State.restartIdleTimer_quiet _)

/-- Every event of the trunk and of a timer is quiet, but the expiry of the lease timer. -/
theorem TrunkOp.quiet {op : State → State} (h : TrunkOp op) (s : State) :
    Quiet off s (op s) ∨ op = State.leaseTimerExpiry := by
  cases h
  case leaseTimerExpiry => exact .inr rfl
  all_goals left
  case lineOctet o => exact s.lineOctet_quiet o
  case markerFound => exact s.markerFound_quiet
  case closeOf t => exact s.closeOf_quiet t
  case arbitrate => exact s.arbitrate_quiet
  case roundSend => exact s.roundSend_quiet
  case rejectSend => exact s.rejectSend_quiet
  case haltSend => exact s.flowSend_quiet _ _ _
  case goSend => exact s.flowSend_quiet _ _ _
  case ackSend => exact s.ackSend_quiet
  case helloSend => exact s.helloSend_quiet
  case transmissionEnd => exact s.transmissionEnd_quiet
  case helloExpiry => exact s.helloExpiry_quiet
  case intervalExpiry => exact s.intervalExpiry_quiet
  case holdOffExpiry => exact s.holdOffExpiry_quiet
  case flushTimerExpiry => exact s.flushTimerExpiry_quiet
  case ackTimerExpiry => exact s.ackTimerExpiry_quiet
  case ackDelayExpiry => exact s.ackDelayExpiry_quiet
  case haltTimerExpiry => exact s.haltTimerExpiry_quiet
  case silence => exact s.silence_quiet
  case clockReturn => exact s.clockSeen_quiet

end

end Sys2Proof.Machine
end

section
/-! SUPPORT. What a command of a port leaves, apart from the management commands: the other ports, the quotas, the
parameters, the active table and the link; and the laws of single units that it keeps. -/

namespace Sys2Proof.Machine

/-- The marks of a receive list lie in their ranges and the list holds at most 32 records (R136, R142). -/
def RxList.InRange (l : RxList) : Prop :=
  l.records.length ≤ Config.rxPlaces ∧ 1 ≤ l.high ∧ l.high ≤ Config.rxPlaces ∧ l.low < l.high

/-- What a port's own command keeps of the port: the quotas, the interrupt line in step, the receive list in range. -/
structure PortState.OwnKept (a b : PortState) : Prop where
  floor : b.floor = a.floor
  ceiling : b.ceiling = a.ceiling
  line : a.events.irq = a.events.pending → b.events.irq = b.events.pending
  range : a.rx.InRange → b.rx.InRange

theorem PortState.Kept.own {a b : PortState} (h : a.Kept b) : a.OwnKept b where
  floor := h.floor
  ceiling := h.ceiling
  line := h.line
  range := fun ⟨hlength, hmarks⟩ => ⟨h.room hlength, by rw [h.high, h.low]; exact hmarks⟩

theorem PortState.OwnKept.trans {a b c : PortState} (h : a.OwnKept b) (h' : b.OwnKept c) : a.OwnKept c :=
  ⟨h'.floor.trans h.floor, h'.ceiling.trans h.ceiling, h'.line ∘ h.line, h'.range ∘ h.range⟩

/-- From s to t the ports other than p and the shared settings are kept, and the laws on port p, the tables, the lease
and the counters. -/
structure Orderly (p : Port) (s t : State) : Prop where
  other : ∀ q, q ≠ p → (s.port q).Kept (t.port q)
  own : (s.port p).OwnKept (t.port p)
  params : t.params = s.params
  entries : t.classifier.active.map (·.entry) = s.classifier.active.map (·.entry)
  tables : s.TableLaw → t.TableLaw
  lease : s.LeaseLaw → t.LeaseLaw
  counters : s.CounterLaw → t.CounterLaw

/-- What a command of p leaves that is no management command, before the pool is judged. -/
structure Handled (p : Port) (s t : State) : Prop extends Orderly p s t where
  link : t.link.state = s.link.state

/-- What a command of p leaves that is no management command. -/
structure Served (p : Port) (s t : State) : Prop extends Handled p s t where
  level : s.LevelLaw → t.LevelLaw

section
variable {p : Port} {s t u : State}

theorem Handled.refl (p : Port) (s : State) : Handled p s s :=
  ⟨⟨fun _ _ => .refl _, ⟨rfl, rfl, id, id⟩, rfl, rfl, id, id, id⟩, rfl⟩

theorem Handled.trans (h : Handled p s t) (h' : Handled p t u) : Handled p s u :=
  ⟨⟨fun q hq => (h.other q hq).trans (h'.other q hq), h.own.trans h'.own, h'.params.trans h.params,
    h'.entries.trans h.entries, h'.tables ∘ h.tables, h'.lease ∘ h.lease, h'.counters ∘ h.counters⟩,
    h'.link.trans h.link⟩

theorem Served.refl (p : Port) (s : State) : Served p s s := ⟨.refl p s, id⟩

theorem Served.trans (h : Served p s t) (h' : Served p t u) : Served p s u :=
  ⟨h.toHandled.trans h'.toHandled, h'.level ∘ h.level⟩

/-- The table law reads the entries, the hit counters, the shadow and the dirty flag. -/
theorem State.TableLaw.of_kept (h : s.TableLaw) (hk : s.classifier.Kept t.classifier) : t.TableLaw := by
  obtain ⟨hactive, hshadow, hsound, hshadowSound, hunmarked, hclean⟩ := h
  obtain ⟨hentries, hshadowEq, hdirty, hhits, -⟩ := hk
  have hlength : t.classifier.active.length = s.classifier.active.length := by
    simpa using congrArg List.length hentries
  refine ⟨hlength.trans hactive, hshadowEq ▸ hshadow, fun a ha => ?_, hshadowEq ▸ hshadowSound, ?_, ?_⟩
  · have hmem := List.mem_map_of_mem (f := ActiveEntry.entry) ha
    rw [hentries] at hmem
    obtain ⟨b, hb, hab⟩ := List.mem_map.mp hmem
    exact ⟨hab ▸ (hsound b hb).1, hhits (fun c hc => (hsound c hc).2) a ha⟩
  · rw [hshadowEq]
    intro x hx hw
    have hx' : (x.1.entry, x.2) ∈ (t.classifier.active.map (·.entry)).zip s.classifier.shadow := by
      rw [List.zip_map_left]
      exact List.mem_map_of_mem (f := Prod.map (·.entry) id) hx
    rw [hentries, List.zip_map_left] at hx'
    obtain ⟨y, hy, hxy⟩ := List.mem_map.mp hx'
    obtain ⟨h1, h2⟩ := Prod.mk.inj hxy
    have h2 : y.2 = x.2 := h2
    rw [← h1, ← h2]
    exact hunmarked y hy (by rw [h2]; exact hw)
  · rw [hshadowEq, hdirty, hentries]
    exact hclean

theorem State.CounterLaw.of_mild {off : Bool} (h : s.CounterLaw) (hm : Mild off s t) : t.CounterLaw :=
  ⟨hm.invalidCount h.1, hm.retransCount h.2.1, hm.classifier.unclaimed h.2.2⟩

theorem State.LeaseLaw.of_eq (h : s.LeaseLaw) (he : t.lease = s.lease) : t.LeaseLaw := by
  unfold State.LeaseLaw
  rw [he]
  exact h

theorem Mild.orderly {off : Bool} (h : Mild off s t) (p : Port) : Orderly p s t :=
  ⟨fun q _ => h.port q, (h.port p).own, h.params, h.classifier.entries, fun hs => hs.of_kept h.classifier,
    fun hs => hs.of_eq h.lease, fun hs => hs.of_mild h⟩

/-- A mild change that leaves the link state is one that a command may make. -/
theorem Mild.handled {off : Bool} (h : Mild off s t) (hlink : t.link.state = s.link.state) : Handled p s t :=
  ⟨h.orderly p, hlink⟩

theorem Quiet.served {off : Bool} (h : Quiet off s t) (hlink : t.link.state = s.link.state) : Served p s t :=
  ⟨h.toMild.handled hlink, h.level⟩

theorem Handled.settlePool (h : Handled p s t) : Served p s t.settlePool :=
  ⟨h.trans ((t.settlePool_mild true).handled (by simp)), fun _ => t.settlePool_levelLaw⟩

/-- A port's own edit. -/
theorem handled_modPort {f : PortState → PortState} (h : (s.port p).OwnKept (f (s.port p))) :
    Handled p s (s.modPort p f) where
  other q hq := by rw [State.port_modPort_ne s f hq]; exact .refl _
  own := by rw [State.port_modPort_same]; exact h
  params := rfl
  entries := rfl
  tables := id
  lease := id
  counters := id
  link := rfl

theorem served_modPort {f : PortState → PortState} (h : (s.port p).OwnKept (f (s.port p)))
    (hr : (f (s.port p)).reservation = (s.port p).reservation) : Served p s (s.modPort p f) :=
  ⟨handled_modPort h, fun hs => hs.modPort hr⟩

/-- An edit of a port's slot, queue, lists of completions, deference flag and previous result keeps the port. -/
theorem PortState.OwnKept.of_fields (a : PortState) (holdings : Nat) (slot : Option Frame) (queue : List Frame)
    (deferred : Bool) (cpl : CplList) (r : Result) (x : Txn) (out reply : List Byte) :
    a.OwnKept
      { a with
        holdings := holdings, slot := slot, queue := queue, deferred := deferred, cpl := cpl, prevResult := r
        txn := x, out := out, reply := reply } := ⟨rfl, rfl, id, id⟩

theorem State.freeFrame_served (s : State) (p q : Port) (f : Frame) : Served p s (s.freeFrame q f) :=
  (s.freeFrame_quiet (off := true) q f).served (by simp)

/-! ### The lease -/

/-- A lease that is held by a port that does not wait, with its timer running. -/
theorem State.LeaseLaw.of_holder {q : Port} {n : Nat} (hholder : s.lease.holder = some q)
    (htimer : s.lease.timer = .running n) (hnodup : s.lease.waiting.Nodup) (hq : q ∉ s.lease.waiting) :
    s.LeaseLaw := by
  simp [State.LeaseLaw, hholder, htimer, hnodup, hq]

/-- A change of the lease alone. -/
theorem served_withLease (s : State) {l : Lease} (h : s.LeaseLaw → State.LeaseLaw { s with lease := l }) :
    Served p s { s with lease := l } :=
  ⟨⟨⟨fun _ _ => .refl _, ⟨rfl, rfl, id, id⟩, rfl, rfl, id, h, id⟩, rfl⟩, id⟩

/-- A reverted shadow equals the active table, with no mark set (R131, R132). -/
theorem State.TableLaw.revert (h : s.TableLaw) : State.TableLaw { s with classifier := s.classifier.revert } := by
  obtain ⟨hactive, -, hsound, -, -, -⟩ := h
  refine ⟨hactive, by simpa [Classifier.revert] using hactive, hsound, ?_, ?_, fun _ => ⟨?_, ?_⟩⟩
  · intro e he
    obtain ⟨a, ha, rfl⟩ := List.mem_map.mp he
    exact (hsound a ha).1
  · intro x hx _
    obtain ⟨x1, x2⟩ := x
    simp only [Classifier.revert, List.zip_map_right, List.mem_map, Prod.exists] at hx
    obtain ⟨a, b, hab, hx⟩ := hx
    obtain ⟨rfl, rfl⟩ := Prod.mk.inj hx
    have : a = b := by
      obtain ⟨i, hi⟩ := List.mem_iff_getElem.mp hab
      obtain ⟨hlt, hi⟩ := hi
      rw [List.getElem_zip] at hi
      exact (Prod.mk.inj hi).1.symm.trans (Prod.mk.inj hi).2
    rw [this]
    rfl
  · simp [Classifier.revert]
  · intro e he
    obtain ⟨a, -, rfl⟩ := List.mem_map.mp he
    rfl

theorem handled_revert (s : State) : Served p s { s with classifier := s.classifier.revert } :=
  ⟨⟨⟨fun _ _ => .refl _, ⟨rfl, rfl, id, id⟩, rfl, rfl, State.TableLaw.revert, id, id⟩, rfl⟩, id⟩

theorem State.raise_served (s : State) (p q : Port) (e : Event) : Served p s (s.raise q e) :=
  (s.raise_quiet (off := true) q e).served rfl

/-- The end of a holding keeps the law on the lease: the head of the list holds it next, or it is FREE (R154). -/
theorem State.endHolding_served (s : State) (p : Port) (expired : Bool) : Served p s (s.endHolding expired) := by
  obtain ⟨-, e⟩ | ⟨h, hh, hlost⟩ := s.endHolding_cases expired
  · rw [e]; exact .refl p s
  · dsimp only at hlost
    have reverted : Served p s { s with classifier := s.classifier.revert } := handled_revert s
    have lost : Served p s
        (if expired = true then State.raise { s with classifier := s.classifier.revert } h .leaseLost
          else { s with classifier := s.classifier.revert }) := by
      split
      · exact reverted.trans (State.raise_served _ p h _)
      · exact reverted
    have hlease : (if expired = true then State.raise { s with classifier := s.classifier.revert } h .leaseLost
          else { s with classifier := s.classifier.revert }).lease = s.lease := by
      split <;> rfl
    generalize (if expired = true then State.raise { s with classifier := s.classifier.revert } h .leaseLost
          else { s with classifier := s.classifier.revert }) = v at lost hlease hlost
    obtain ⟨-, e⟩ | ⟨q, rest, hw, e⟩ := hlost
    · rw [e]
      exact lost.trans (served_withLease v fun _ => by simp [State.LeaseLaw])
    · rw [e]
      refine (lost.trans (served_withLease v fun hv => ?_)).trans (State.raise_served _ p q _)
      have hnodup : (q :: rest).Nodup := by rw [← hw, ← hlease]; exact hv.1
      obtain ⟨hq, hrest⟩ := List.nodup_cons.mp hnodup
      exact State.LeaseLaw.of_holder rfl rfl hrest hq

/-- A FREE lease is taken, or the holder's timer starts again (R151, R152). -/
theorem State.LeaseLaw.held (h : s.LeaseLaw) (hfree : s.lease.holder = none ∨ s.lease.holder = some p) (n : Nat) :
    State.LeaseLaw { s with lease := { s.lease with holder := some p, timer := .running n } } := by
  obtain ⟨hnodup, hholder, hnobody, -⟩ := h
  refine .of_holder rfl rfl hnodup ?_
  obtain hfree | hp := hfree
  · show p ∉ s.lease.waiting
    rw [hnobody hfree]
    exact List.not_mem_nil
  · exact hholder p hp

theorem State.LeaseLaw.withdraw (h : s.LeaseLaw) (p : Port) :
    State.LeaseLaw { s with lease := { s.lease with waiting := s.lease.waiting.filter (· ≠ p) } } := by
  obtain ⟨hnodup, hholder, hnobody, htimer⟩ := h
  refine ⟨hnodup.filter _, fun q hq hmem => hholder q hq (List.mem_of_mem_filter hmem), fun hnone => ?_, htimer⟩
  show s.lease.waiting.filter _ = []
  rw [hnobody hnone]
  rfl

theorem State.LeaseLaw.wait (h : s.LeaseLaw) {q : Port} (hheld : s.lease.holder = some q) (hq : q ≠ p)
    (hnew : p ∉ s.lease.waiting) :
    State.LeaseLaw { s with lease := { s.lease with waiting := s.lease.waiting ++ [p] } } := by
  obtain ⟨hnodup, hholder, -, htimer⟩ := h
  refine ⟨?_, fun r hr hmem => ?_, fun hnone => ?_, htimer⟩
  · exact List.nodup_append.mpr ⟨hnodup, List.nodup_singleton p, fun a ha b hb hab =>
      hnew (List.mem_singleton.mp hb ▸ hab ▸ ha)⟩
  · obtain hmem | hmem := List.mem_append.mp hmem
    · exact hholder r hr hmem
    · have hrq : r = q := Option.some.inj (hr.symm.trans hheld)
      exact hq (hrq.symm.trans (List.mem_singleton.mp hmem))
  · exact absurd (hheld.symm.trans hnone) (by simp)

/-! ### PORT RESET -/

theorem State.dropReference_handled (s : State) (p q : Port) (n : Nat) : Handled p s (s.dropReference q n) := by
  have framed (v : State) (l : List (Nat × Frame)) : Handled p v { v with frames := l } :=
    ⟨⟨fun _ _ => .refl _, ⟨rfl, rfl, id, id⟩, rfl, rfl, id, id, id⟩, rfl⟩
  obtain ⟨-, e⟩ | ⟨f, -, ⟨-, e⟩ | ⟨r, -, -, e⟩ | e⟩ := s.dropReference_cases q n <;> rw [e]
  · exact .refl p s
  · exact ((s.returnFrames_mild (off := true) _ _).handled (by simp)).trans (framed _ _)
  · exact ((s.movePayment_mild (off := true) _ _ _).handled (by simp)).trans (framed _ _)
  · exact framed _ _

theorem handled_foldl {α : Type} {f : State → α → State} (h : ∀ t x, Handled p t (f t x)) (l : List α) (s : State) :
    Handled p s (l.foldl f s) := by
  induction l generalizing s with
  | nil => exact .refl p s
  | cons x l ih => exact (h s x).trans (ih _)

theorem RxList.reset_inRange : PortState.reset.rx.InRange := by
  unfold RxList.InRange
  decide

theorem State.portReset_served (s : State) (p : Port) : Served p s (s.portReset p).state := by
  have frames : Handled p s (s.resetFrames p) :=
    ((s.returnFrames_mild (off := true) p _).handled (by simp)).trans
      (handled_modPort (.of_fields _ _ _ _ _ _ _ _ _ _))
  have window : Handled p s ((s.resetFrames p).orphan p) :=
    have orphaned : Quiet true (s.resetFrames p) ((s.resetFrames p).orphan p) :=
      quiet_of_eq rfl rfl rfl rfl rfl rfl rfl rfl rfl
    frames.trans (orphaned.toMild.handled rfl)
  have lists : Handled p s (((s.resetFrames p).orphan p).resetLists p) :=
    (window.trans (handled_modPort ⟨rfl, rfl, id, fun _ => RxList.reset_inRange⟩)).trans
      (handled_foldl (fun t (r : RxRecord) => t.dropReference_handled p p r.frame) _ _)
  have lease : Handled p s ((((s.resetFrames p).orphan p).resetLists p).resetLease p) := by
    refine lists.trans ?_
    unfold State.resetLease
    split
    · exact (State.endHolding_served _ p false).toHandled
    · exact (served_withLease _ fun h => h.withdraw p).toHandled
  unfold State.portReset
  dsimp only
  have cleared : EventUnit.cleared.irq = EventUnit.cleared.pending := by decide
  exact lease.settlePool.trans (served_modPort ⟨rfl, rfl, fun _ => cleared, id⟩ rfl)

/-! ### The other commands -/

theorem PortState.OwnKept.examineLow (a : PortState) : a.OwnKept a.examineLow := by
  unfold PortState.examineLow
  split
  · exact ⟨rfl, rfl, fun _ => EventUnit.raise_irq _ _, id⟩
  · exact ⟨rfl, rfl, id, id⟩

theorem PortState.examineLow_reservation (a : PortState) : a.examineLow.reservation = a.reservation := by
  unfold PortState.examineLow
  split <;> rfl

theorem State.deliver_link (s : State) (f : Frame) (targets : HostSet) (source : Source) (first : Option Nat)
    (sender : Option Port) : (s.deliver f targets source first sender).link = s.link := by
  rw [State.deliver_frame]

theorem State.deliverLocal_served (s : State) (p : Port) (f : Frame) (targets : HostSet) :
    Served p s (s.deliverLocal p f targets) := by
  have delivered : Served p s (s.deliver f targets (.fromPort p) none (some p)) :=
    (s.deliver_quiet (off := true) f targets (.fromPort p) none (some p)).served
      (congrArg Link.state (s.deliver_link _ _ _ _ _))
  unfold State.deliverLocal
  refine delivered.trans (served_modPort ?_ ?_)
  · dsimp only
    split
    · exact (PortState.Kept.appendCompletion _ _).own.trans (.of_fields _ _ _ _ _ _ _ _ _ _)
    · exact .of_fields _ _ _ _ _ _ _ _ _ _
  · dsimp only
    split <;> rfl

theorem State.releaseRecord_served (s : State) {p : Port} {r : RxRecord} {rest : List RxRecord}
    (h : (s.port p).rx.records = r :: rest) :
    Served p s ((((s.keepRecords p rest).dropReference p r.frame).settlePool).modPort p (·.examineLow)) := by
  have kept : Handled p s (s.keepRecords p rest) :=
    handled_modPort ⟨rfl, rfl, id, fun ⟨hlength, hmarks⟩ => ⟨by
      rw [h] at hlength
      exact (Nat.le_succ _).trans hlength, hmarks⟩⟩
  exact (kept.trans (State.dropReference_handled _ p p _)).settlePool.trans
    (served_modPort (.examineLow _) (PortState.examineLow_reservation _))

theorem State.grantClaim_handled (s : State) (p : Port) (k : Nat) : Handled p s (s.grantClaim p k) :=
  ((mild_holdings (off := true) s p (·.holdings + k)).handled rfl).trans
    ⟨⟨fun _ _ => .refl _, ⟨rfl, rfl, id, id⟩, rfl, rfl, id, id, id⟩, rfl⟩

/-- Every command but the management commands is served: what it leaves of the part. -/
theorem CommandEffect.served (h : CommandEffect p s false t) : Served p s t := by
  cases h
  case answered => exact .refl p s
  case ackEvents => exact served_modPort ⟨rfl, rfl, fun _ => rfl, id⟩ rfl
  case setEventMask => exact served_modPort ⟨rfl, rfl, fun _ => rfl, id⟩ rfl
  case setMarks high low hhigh hmax hlow =>
    exact served_modPort ⟨rfl, rfl, id, fun hrange => ⟨hrange.1, hhigh, hmax, hlow⟩⟩ rfl
  case portReset => exact s.portReset_served p
  case openFrame =>
    exact ((s.grantClaim_handled p _).trans (handled_modPort (.of_fields _ _ _ _ _ _ _ _ _ _))).settlePool
  case commitTrunk => exact served_modPort (.of_fields _ _ _ _ _ _ _ _ _ _) rfl
  case commitLocal => exact s.deliverLocal_served p _ _
  case discardFrame =>
    exact (served_modPort (.of_fields _ _ _ _ _ _ _ _ _ _) rfl).trans (State.freeFrame_served _ p p _)
  case cancel =>
    exact (served_modPort (.of_fields _ _ _ _ _ _ _ _ _ _) rfl).trans (State.freeFrame_served _ p p _)
  case releaseRecord r rest hrecords => exact s.releaseRecord_served hrecords
  case takeCompletion => exact served_modPort (.of_fields _ _ _ _ _ _ _ _ _ _) rfl
  case acquireFree hfree => exact served_withLease s fun h => h.held (.inl hfree) _
  case renew hholder =>
    refine served_withLease s fun h => ?_
    have := h.held (p := p) (.inr hholder) s.params.tLease
    rw [← hholder] at this
    exact this
  case wait q hheld hq hnew => exact served_withLease s fun h => h.wait hheld hq hnew
  case releaseLease => exact s.endHolding_served p false
  case withdraw => exact served_withLease s fun h => h.withdraw p

end

end Sys2Proof.Machine
end

section
/-! SUPPORT. The state after device reset, and the state that a device reset leaves (R175). -/

namespace Sys2Proof.Machine

/-! ### The values -/

@[simp] theorem State.port_reset (p : Port) : State.reset.port p = .reset := by
  cases p <;> rfl

/-- Settles O1: step tells a waiting command from none. -/
theorem stepRunsFrontCommand : Obligations.StepRunsFrontCommand := by
  intro s c rest
  constructor
  · intro h
    simp [step, h]
  · intro h
    simp [step, h]

/-- Settles O2: State.reset is the table of R175. -/
theorem resetValues : Obligations.ResetValues := by
  have hcells (n : Nat) : n ∈ State.reset.pool.freeCells ↔ n < 512 := by
    simp only [State.reset, Config.poolCells, List.mem_range]
  refine ⟨rfl, rfl, rfl, hcells, rfl, by decide, fun p => ?_, rfl, rfl, rfl, rfl, rfl, rfl, rfl, rfl,
    rfl, rfl, rfl, rfl, rfl, rfl⟩
  rw [State.port_reset]
  exact ⟨rfl, rfl, rfl, rfl, rfl, rfl, rfl, rfl, rfl, rfl⟩

/-! ### The laws -/

theorem State.parameterLaw_reset : State.reset.ParameterLaw := by
  have table : ∀ i < 15, ∀ r ∈ paramRange i, ∀ v ∈ State.reset.params.value? i, r.1 ≤ v ∧ v ≤ r.2 := by decide
  intro n lo hi v hrange hv
  exact table n (Nat.lt_succ_of_le (le_of_paramRange_eq_some hrange)) (lo, hi) hrange v hv

theorem State.tableLaw_reset : State.reset.TableLaw := by
  have hactive {a : ActiveEntry} (h : a ∈ State.reset.classifier.active) : a = { entry := .unused, hits := 0 } :=
    List.eq_of_mem_replicate h
  have hshadow {e : ShadowEntry} (h : e ∈ State.reset.classifier.shadow) : e = { entry := .unused, written := false } :=
    List.eq_of_mem_replicate h
  have hsound : TableEntry.unused.Sound := ⟨nofun, fun _ => rfl⟩
  refine ⟨rfl, rfl, fun a ha => ?_, fun e he => ?_, fun x hx _ => ?_, fun _ => ⟨rfl, fun e he => ?_⟩⟩
  · rw [hactive ha]
    exact ⟨hsound, fun _ => rfl, Nat.zero_le _⟩
  · rw [hshadow he]
    exact hsound
  · obtain ⟨ha, he⟩ := List.of_mem_zip hx
    rw [hactive ha, hshadow he]
  · rw [hshadow he]

theorem State.counterLaw_reset : State.reset.CounterLaw := ⟨Nat.zero_le _, Nat.zero_le _, Nat.zero_le _⟩

theorem State.leaseLaw_reset : State.reset.LeaseLaw :=
  ⟨List.nodup_nil, nofun, fun _ => rfl, ⟨fun _ => rfl, fun _ => rfl⟩⟩

theorem State.levelLaw_reset : State.reset.LevelLaw := by
  unfold State.LevelLaw
  decide

theorem State.windowLaw_reset : State.reset.WindowLaw := ⟨Nat.zero_le _, rfl, fun _ => rfl⟩

theorem State.receptionLaw_reset : State.reset.ReceptionLaw := ⟨fun h => absurd rfl h, nofun, nofun⟩

theorem State.linkLaws_reset : State.reset.LinkLaws :=
  ⟨State.parameterLaw_reset,
    ⟨fun _ => ⟨rfl, rfl⟩, nofun, by decide, by decide, fun h => absurd rfl h, nofun⟩,
    ⟨⟨fun _ => rfl, fun _ => rfl⟩, ⟨fun _ => rfl, fun _ => rfl⟩, nofun⟩,
    State.windowLaw_reset, fun _ => rfl, State.receptionLaw_reset⟩

theorem State.paidFrames_reset (p : Port) : State.reset.paidFrames p = [] := by
  cases p <;> rfl

theorem State.accountLaws_reset : State.reset.AccountLaws := by
  have hlength : State.reset.pool.freeCells.length = State.reset.pool.free := by
    simp only [State.reset, List.length_range]
  refine ⟨rfl, ⟨fun p => ?_, rfl⟩, ⟨hlength, rfl, fun p f hf => ?_, ?_⟩,
    ⟨List.nodup_nil, fun _ hx => absurd hx List.not_mem_nil, fun p n => ?_,
    fun p r hr => ?_⟩, fun p => ?_, ⟨Nat.zero_le _, nofun⟩, State.receptionLaw_reset, State.windowLaw_reset,
    State.parameterLaw_reset⟩
  · rw [State.paidFrames_reset, State.port_reset]
    rfl
  · rw [State.paidFrames_reset] at hf
    exact absurd hf List.not_mem_nil
  · have hpaid : Port.all.flatMap State.reset.paidFrames = [] := rfl
    rw [hpaid]
    exact List.Perm.of_eq (by simp only [State.reset, List.flatMap_nil, List.append_nil])
  · simp [State.recordsOf, PortState.reset]
  · rw [State.port_reset] at hr
    exact absurd hr List.not_mem_nil
  · cases p <;> exact ⟨by decide, rfl, by decide⟩

theorem PortState.reset_quotas :
    PortState.reset.floor ≤ Config.maxFloor ∧ PortState.reset.floor ≤ PortState.reset.ceiling ∧
      PortState.reset.ceiling ≤ Config.maxCeiling := by decide

theorem State.settingsLaws_reset : State.reset.SettingsLaws := by
  refine ⟨State.parameterLaw_reset, ⟨fun p => ?_, by decide⟩, fun p => ?_⟩
  · rw [State.port_reset]
    exact PortState.reset_quotas
  · rw [State.port_reset]
    exact RxList.reset_inRange

/-- Settles O3: law by law, on the reset values. -/
theorem lawsHoldAtReset : Obligations.LawsHoldAtReset := by
  refine ⟨fun p => ?_, State.leaseLaw_reset, State.settingsLaws_reset, State.tableLaw_reset, State.counterLaw_reset,
    State.levelLaw_reset, State.linkLaws_reset, State.accountLaws_reset⟩
  rw [State.port_reset]
  decide

/-! ### The device reset -/

theorem State.port_deviceReset (s : State) (p : Port) :
    s.deviceReset.port p = { PortState.reset with txn := (s.port p).txn.afterReset } := by
  cases p <;> rfl

/-- Settles O4: the reset builds its state from the reset values, and the release changes the level. -/
theorem deviceResetAndRelease : Obligations.DeviceResetAndRelease := by
  intro s
  refine ⟨⟨s.deviceReset, rfl, rfl, fun p => ?_⟩, rfl⟩
  rw [State.port_deviceReset, State.port_reset]
  cases (s.port p).txn <;> rfl

theorem State.deviceReset_settingsLaws (s : State) : s.deviceReset.SettingsLaws := by
  refine ⟨State.parameterLaw_reset, ⟨fun p => ?_, ?_⟩, fun p => ?_⟩
  · rw [State.port_deviceReset]
    exact PortState.reset_quotas
  · show (16 + (16 + (16 + (16 + 0))) : Nat) ≤ 256
    omega
  · rw [State.port_deviceReset]
    exact RxList.reset_inRange

end Sys2Proof.Machine
end

section
/-! SUPPORT. The laws of single units (R5, R15, R17, R117, R118, R136, R142, R150, R151, R160, R171) are kept by every
step, and what the rules of the whole part say of shared settings, link changes and other ports. -/

namespace Sys2Proof.Machine

section
variable {p : Port} {s t : State}

/-! ### The management commands -/

theorem State.tableCommit_cases (s : State) :
    s.tableCommit = s ∨ s.tableCommit = State.raiseAll { s with classifier := s.classifier.commit } .tableSwapped := by
  unfold State.tableCommit
  split
  · exact .inr rfl
  · exact .inl rfl

/-- The end of the halting of the peer, or a recorded level, after a written parameter (R15, R113). -/
theorem State.afterParameter_cases (s : State) (n : Nat) :
    s.afterParameter n = s ∨ s.afterParameter n = s.resumePeer ∨ s.afterParameter n = s.recordLevel := by
  rw [State.afterParameter_eq]
  split_ifs
  · exact .inr (.inr rfl)
  · exact .inr (.inl rfl)
  · exact .inl rfl

theorem State.afterParameter_mild (s : State) (n : Nat) : Mild true s (s.afterParameter n) := by
  obtain e | e | e := s.afterParameter_cases n <;> rw [e]
  · exact .refl true s
  · exact (s.resumePeer_quiet true).toMild
  · exact mild_withPool s _

theorem TxnMoved.served (h : TxnMoved p s t) : Served p s t := by
  obtain ⟨r, x, out, reply, rfl⟩ := h
  exact served_modPort ⟨rfl, rfl, id, id⟩ rfl

theorem served_appendByte (p : Port) (s : State) (r : Result) (b : Byte) :
    Served p s (s.modPort p (·.appendByte r b)) := by
  refine served_modPort ?_ ?_
  all_goals
    unfold PortState.appendByte
    split
  · exact ⟨rfl, rfl, id, id⟩
  · split_ifs <;> exact ⟨rfl, rfl, id, id⟩
  · rfl
  · split_ifs <;> rfl

theorem State.leaseTimerExpiry_served (p : Port) (s : State) : Served p s s.leaseTimerExpiry := by
  unfold State.leaseTimerExpiry
  split
  · exact s.endHolding_served p true
  · exact .refl p s

/-! ### What a step keeps -/

/-- A law that an orderly change keeps, and the management commands that are not orderly, is kept by every step. -/
theorem keptByMoves_of_orderly {P : State → Prop}
    (orderly : ∀ p s t, Orderly p s t → (s.LevelLaw → t.LevelLaw) → P s → P t)
    (quota : ∀ s q floor ceiling, (floor ≤ 128 ∧ floor ≤ ceiling ∧ ceiling ≤ 512) → s.floorSumWith q floor ≤ 256 →
      P s → P (s.modPort q fun ps => { ps with floor := floor, ceiling := ceiling }).settlePool)
    (parameter : ∀ s n lo hi v, paramRange n = some (lo, hi) → (lo ≤ v ∧ v ≤ hi) →
      P s → P (State.afterParameter { s with params := s.params.write n v } n))
    (edit : ∀ s i e, i < 32 → e.Sound → P s → P { s with classifier := s.classifier.edit i e })
    (commit : ∀ s, P s → P { s with classifier := s.classifier.commit })
    (reset : ∀ s : State, P s.deviceReset)
    (queue : ∀ s l, P s → P { s with pending := l })
    (level : ∀ s b, P s → P { s with resetAsserted := b }) : KeptByMoves P where
  queue := queue
  transaction p s t h hs := orderly p s t h.served.toOrderly h.served.level hs
  command p s managed t h hs := by
    have served {u : State} (hu : Served p s u) : P u := orderly p s u hu.toOrderly hu.level hs
    have quiet {u : State} (hu : Quiet true s u) : P u := orderly p s u (hu.toMild.orderly p) hu.level hs
    cases managed with
    | false => exact served h.served
    | true =>
      cases h
      case answered => exact hs
      case setQuota hfloor hsum => exact quota _ _ _ _ hfloor hsum hs
      case setParameter hrange hvalue => exact parameter _ _ _ _ _ hrange hvalue hs
      case editTable hindex he => exact edit _ _ _ hindex he hs
      case tableCommit =>
        obtain e | e := s.tableCommit_cases <;> rw [e]
        · exact hs
        · exact orderly p _ _ ((State.raiseAll_mild true _ _).orderly p) id (commit s hs)
      case tableRevert => exact served (handled_revert s)
      case trunkOn => exact quiet s.trunkOn_quiet
      case trunkOff => exact quiet s.trunkOff_quiet
  appendByte p s r b hs :=
    have served := served_appendByte p s r b
    orderly p s _ served.toOrderly served.level hs
  trunk op s hop hs := by
    obtain hq | rfl := hop.quiet (off := true) s
    · exact orderly .p0 s _ (hq.toMild.orderly .p0) hq.level hs
    · have served := s.leaseTimerExpiry_served .p0
      exact orderly .p0 s _ served.toOrderly served.level hs
  deviceReset s _ := reset s
  resetRelease s hs := level s false hs

theorem Orderly.line {p : Port} {s t : State} (h : Orderly p s t) (q : Port)
    (hs : (s.port q).events.irq = (s.port q).events.pending) : (t.port q).events.irq = (t.port q).events.pending := by
  by_cases hq : q = p
  · subst hq; exact h.own.line hs
  · exact (h.other q hq).line hs

/-- The interrupt lines stay in step with flags and masks (R171). -/
theorem State.InterruptLaw.keptByMoves : KeptByMoves State.InterruptLaw := by
  have mild {s t : State} (h : Mild true s t) (hs : s.InterruptLaw) : t.InterruptLaw :=
    fun q => (h.port q).line (hs q)
  refine keptByMoves_of_orderly (fun p s t h _ hs q => h.line q (hs q)) ?quota ?parameter (fun _ _ _ _ _ hs => hs)
    (fun _ hs => hs) ?reset (fun _ _ hs => hs) (fun _ _ hs => hs)
  case quota =>
    intro s q floor ceiling _ _ hs
    refine mild (State.settlePool_mild true _) fun r => ?_
    rw [State.port_modPort]
    split
    · exact hs r
    · exact hs r
  case parameter =>
    intro s n lo hi v _ _ hs
    exact mild (State.afterParameter_mild _ n) hs
  case reset =>
    intro s q
    rw [State.port_deviceReset]
    exact (by decide : PortState.reset.events.irq = PortState.reset.events.pending)

/-- Settles O51: the line is refreshed wherever flags or mask change. -/
theorem stepKeepsInterruptLaw : Obligations.StepKeepsInterruptLaw := fun _ _ hs h =>
  State.InterruptLaw.keptByMoves.of_step hs h

theorem State.LeaseLaw.keptByMoves : KeptByMoves State.LeaseLaw := by
  refine keptByMoves_of_orderly (fun p s t h _ hs => h.lease hs) ?quota ?parameter (fun _ _ _ _ _ hs => hs)
    (fun _ hs => hs) ?reset (fun _ _ hs => hs) (fun _ _ hs => hs)
  case quota =>
    intro s q floor ceiling _ _ hs
    exact hs.of_eq (by simp)
  case parameter =>
    intro s n lo hi v _ _ hs
    exact hs.of_eq (State.afterParameter_mild _ n).lease
  case reset => exact fun _ => State.leaseLaw_reset

/-- Settles O52: acquisition, waiting, withdrawal and the end of a holding are what moves the lease. -/
theorem stepKeepsLeaseLaw : Obligations.StepKeepsLeaseLaw := fun _ _ hs h => State.LeaseLaw.keptByMoves.of_step hs h

/-! ### Parameters, quotas and lists -/

theorem State.ParameterLaw.of_eq (h : s.ParameterLaw) (he : t.params = s.params) : t.ParameterLaw := by
  unfold State.ParameterLaw
  rw [he]
  exact h

/-- A written value that passed its check leaves every parameter in its range (R160, R161). -/
theorem State.ParameterLaw.write (h : s.ParameterLaw) {n lo hi v : Nat} (hrange : paramRange n = some (lo, hi))
    (hv : lo ≤ v ∧ v ≤ hi) : State.ParameterLaw { s with params := s.params.write n v } := by
  intro m lo' hi' w hm hwritten
  have hw : (s.params.write n v).value? m = some w := hwritten
  rw [Params.value?_write _ (le_of_paramRange_eq_some hrange)] at hw
  split at hw
  · next hmn =>
    subst hmn
    obtain ⟨rfl, rfl⟩ := Prod.mk.inj (Option.some.inj (hrange.symm.trans hm))
    exact Option.some.inj hw ▸ hv
  · exact h m lo' hi' w hm hw

theorem State.QuotaLaw.of_eq (h : s.QuotaLaw) (hfloor : ∀ q, (t.port q).floor = (s.port q).floor)
    (hceiling : ∀ q, (t.port q).ceiling = (s.port q).ceiling) : t.QuotaLaw := by
  unfold State.QuotaLaw
  simp only [hfloor, hceiling]
  exact h

theorem Orderly.quotas {p : Port} {s t : State} (h : Orderly p s t) (q : Port) :
    (t.port q).floor = (s.port q).floor ∧ (t.port q).ceiling = (s.port q).ceiling := by
  by_cases hq : q = p
  · subst hq; exact ⟨h.own.floor, h.own.ceiling⟩
  · exact ⟨(h.other q hq).floor, (h.other q hq).ceiling⟩

theorem Orderly.lists {p : Port} {s t : State} (h : Orderly p s t) (q : Port) (hs : (s.port q).rx.InRange) :
    (t.port q).rx.InRange := by
  by_cases hq : q = p
  · subst hq; exact h.own.range hs
  · exact (h.other q hq).own.range hs

/-- The quotas that SET QUOTA has judged keep the law on the quotas (R17). -/
theorem State.QuotaLaw.setQuota (h : s.QuotaLaw) {q : Port} {floor ceiling : Nat}
    (hfloor : floor ≤ 128 ∧ floor ≤ ceiling ∧ ceiling ≤ 512) (hsum : s.floorSumWith q floor ≤ 256) :
    (s.modPort q fun ps => { ps with floor := floor, ceiling := ceiling }).QuotaLaw := by
  refine ⟨fun r => ?_, ?_⟩
  · rw [State.port_modPort]
    split
    · exact hfloor
    · exact h.1 r
  · have hsame (r : Port) : ((s.modPort q fun ps => { ps with floor := floor, ceiling := ceiling }).port r).floor =
        if r = q then floor else (s.port r).floor := by
      rw [State.port_modPort]
      split <;> rfl
    simp only [hsame]
    exact hsum

theorem State.SettingsLaws.keptByMoves : KeptByMoves State.SettingsLaws := by
  have orderly (p : Port) (s t : State) (h : Orderly p s t) (hs : s.SettingsLaws) : t.SettingsLaws :=
    ⟨hs.1.of_eq h.params, hs.2.1.of_eq (fun q => (h.quotas q).1) (fun q => (h.quotas q).2),
      fun q => h.lists q (hs.2.2 q)⟩
  have mild {s t : State} (h : Mild true s t) : s.SettingsLaws → t.SettingsLaws := orderly .p0 s t (h.orderly .p0)
  refine keptByMoves_of_orderly (fun p s t h _ => orderly p s t h) ?quota ?parameter (fun _ _ _ _ _ hs => hs)
    (fun _ hs => hs) ?reset (fun _ _ hs => hs) (fun _ _ hs => hs)
  case quota =>
    intro s q floor ceiling hfloor hsum hs
    refine mild (State.settlePool_mild true _) ⟨hs.1, hs.2.1.setQuota hfloor hsum, fun r => ?_⟩
    rw [State.port_modPort]
    split
    · exact hs.2.2 r
    · exact hs.2.2 r
  case parameter =>
    intro s n lo hi v hrange hv hs
    exact mild (State.afterParameter_mild _ n) ⟨hs.1.write hrange hv, hs.2⟩
  case reset => exact State.deviceReset_settingsLaws

/-- Settles O53: SET PARAMETER, SET QUOTA and SET MARKS judge their values, and a record comes where there is room. -/
theorem stepKeepsSettingsLaws : Obligations.StepKeepsSettingsLaws := fun _ _ hs h =>
  State.SettingsLaws.keptByMoves.of_step hs h

/-! ### The tables -/

theorem mem_zip_set {α β : Type} {l : List α} {l' : List β} {i : Nat} {b : β} {x : α × β} (h : x ∈ l.zip (l'.set i b)) :
    x.2 = b ∨ x ∈ l.zip l' := by
  induction l generalizing l' i with
  | nil => simp at h
  | cons a l ih =>
    cases l' with
    | nil => simp at h
    | cons c l' =>
      cases i with
      | zero =>
        obtain rfl | h := List.mem_cons.mp h
        · exact .inl rfl
        · exact .inr (List.mem_cons_of_mem _ h)
      | succ i =>
        obtain rfl | h := List.mem_cons.mp h
        · exact .inr List.mem_cons_self
        · exact (ih h).imp_right (List.mem_cons_of_mem _)

/-- An edit marks the entry it replaces and sets the dirty flag (R118, R127, R128). -/
theorem State.TableLaw.edit (h : s.TableLaw) (i : Nat) {e : TableEntry} (he : e.Sound) :
    State.TableLaw { s with classifier := s.classifier.edit i e } := by
  obtain ⟨hactive, hshadow, hsound, hshadowSound, hunmarked, -⟩ := h
  refine ⟨hactive, (List.length_set ..).trans hshadow, hsound, fun x hx => ?_, fun x hx hw => ?_, nofun⟩
  · obtain hx | rfl := List.mem_or_eq_of_mem_set hx
    · exact hshadowSound x hx
    · exact he
  · obtain hx | hx := mem_zip_set hx
    · rw [hx] at hw
      exact absurd hw (by simp)
    · exact hunmarked x hx hw

/-- Committed entries have the content of the shadow. -/
theorem entries_zipWith_committedEntry {l : List ActiveEntry} {l' : List ShadowEntry} (h : l.length = l'.length) :
    (List.zipWith committedEntry l l').map (·.entry) = l'.map (·.entry) := by
  calc (List.zipWith committedEntry l l').map (·.entry)
      = ((l.zip l').map Prod.snd).map (·.entry) := by
        rw [← List.map_uncurry_zip_eq_zipWith, List.map_map, List.map_map]
        rfl
    _ = l'.map (·.entry) := by rw [List.map_snd_zip h.ge]

/-- A commit gives every entry the shadow's content and keeps the hit count of an entry that was not written (R130). -/
theorem State.TableLaw.commit (h : s.TableLaw) : State.TableLaw { s with classifier := s.classifier.commit } := by
  obtain ⟨hactive, hshadow, hsound, hshadowSound, hunmarked, -⟩ := h
  have hlength := hactive.trans hshadow.symm
  have hentries : s.classifier.commit.active.map (·.entry) = s.classifier.shadow.map (·.entry) :=
    entries_zipWith_committedEntry hlength
  have hclear : s.classifier.commit.shadow.map (·.entry) = s.classifier.shadow.map (·.entry) := List.map_map ..
  refine ⟨?_, (List.length_map ..).trans hshadow, fun a ha => ?_, fun e he => ?_, fun x hx _ => ?_,
    fun _ => ⟨hclear.trans hentries.symm, fun e he => ?_⟩⟩
  · exact (List.length_zipWith ..).trans (by rw [hactive, hshadow, Nat.min_self])
  · have ha : a ∈ List.zipWith committedEntry s.classifier.active s.classifier.shadow := ha
    rw [← List.map_uncurry_zip_eq_zipWith] at ha
    obtain ⟨⟨b, e⟩, hbe, rfl⟩ := List.mem_map.mp ha
    obtain ⟨hb, he⟩ := List.of_mem_zip hbe
    have hmark := hunmarked _ hbe
    obtain ⟨-, hfree, hmax⟩ := hsound b hb
    refine ⟨hshadowSound e he, ?_, ?_⟩
    all_goals
      dsimp only [Function.uncurry, committedEntry] at hmark ⊢
      split
    · exact fun _ => rfl
    · next hw => exact fun hunused => hfree (hmark (by simpa using hw) ▸ hunused)
    · exact Nat.zero_le _
    · exact hmax
  · obtain ⟨e', he', rfl⟩ := List.mem_map.mp he
    exact hshadowSound e' he'
  · obtain ⟨j, hj, rfl⟩ := List.mem_iff_getElem.mp hx
    simp [Classifier.commit, committedEntry]
  · obtain ⟨e', -, rfl⟩ := List.mem_map.mp he
    rfl

theorem tableAndCounterLaw_keptByMoves : KeptByMoves fun s => s.TableLaw ∧ s.CounterLaw := by
  have mild {s t : State} (h : Mild true s t) (hs : s.TableLaw ∧ s.CounterLaw) : t.TableLaw ∧ t.CounterLaw :=
    ⟨hs.1.of_kept h.classifier, hs.2.of_mild h⟩
  refine keptByMoves_of_orderly (fun p s t h _ hs => ⟨h.tables hs.1, h.counters hs.2⟩) ?quota ?parameter
    (fun s i e _ he hs => ⟨hs.1.edit i he, hs.2⟩) (fun s hs => ⟨hs.1.commit, hs.2⟩) ?reset (fun _ _ hs => hs)
    (fun _ _ hs => hs)
  case quota => exact fun s q floor ceiling _ _ hs => mild (State.settlePool_mild true _) hs
  case parameter => exact fun s n lo hi v _ _ hs => mild (State.afterParameter_mild _ n) hs
  case reset => exact fun s => ⟨State.tableLaw_reset, State.counterLaw_reset⟩

/-- Settles O54: edits mark what they replace, commit and revert make the tables equal, and the counters saturate. -/
theorem stepKeepsTableLaw : Obligations.StepKeepsTableLaw := fun _ _ hs hc h =>
  tableAndCounterLaw_keptByMoves.of_step ⟨hs, hc⟩ h

/-! ### The recorded level -/

/-- P14 is written by its own number alone. -/
theorem Params.poolLow_write (q : Params) {n : Nat} (hn : n ≤ 14) (h : n ≠ 14) (v : Nat) :
    (q.write n v).poolLow = q.poolLow := by
  have hvalue := q.value?_write hn v 14
  rw [if_neg (Ne.symm h)] at hvalue
  exact Option.some.inj hvalue

theorem State.LevelLaw.write (h : s.LevelLaw) {n : Nat} (hn : n ≤ 14) (v : Nat) :
    State.LevelLaw (State.afterParameter { s with params := s.params.write n v } n) := by
  rw [State.afterParameter_eq]
  by_cases h14 : n = 14
  · subst h14
    exact State.recordLevel_levelLaw _
  · have hw : State.LevelLaw { s with params := s.params.write n v } := by
      unfold State.LevelLaw
      rw [s.params.poolLow_write hn h14 v]
      exact h
    split_ifs
    · exact (State.resumePeer_quiet true _).level hw
    · exact hw

theorem State.LevelLaw.keptByMoves : KeptByMoves State.LevelLaw := by
  refine keptByMoves_of_orderly (fun p s t _ h => h) (fun _ _ _ _ _ _ _ => State.settlePool_levelLaw _)
    (fun s n lo hi v hrange _ hs => hs.write (le_of_paramRange_eq_some hrange) v) (fun _ _ _ _ _ hs => hs)
    (fun _ hs => hs) (fun _ => State.levelLaw_reset) (fun _ _ hs => hs) (fun _ _ hs => hs)

/-- Settles O55: the level is recorded after every change of the pool's counts, of a quota or of P14. -/
theorem stepKeepsLevelLaw : Obligations.StepKeepsLevelLaw := fun _ _ hs h => State.LevelLaw.keptByMoves.of_step hs h

/-! ### What a command leaves besides -/

/-- A management command without the lease does nothing (R159). -/
theorem CommandEffect.eq_of_not_holder (h : CommandEffect p s true t) (hp : s.lease.holder ≠ some p) : t = s := by
  cases h
  case answered => rfl
  case setQuota hholder _ _ => exact absurd hholder hp
  case setParameter hholder _ _ => exact absurd hholder hp
  case editTable hholder _ _ => exact absurd hholder hp
  all_goals
    next hholder => exact absurd hholder hp

/-- A change of the link state by a command is told to every port (R75). -/
theorem CommandEffect.linkTold {managed : Bool} (h : CommandEffect p s managed t) : LinkTold true s t := by
  cases managed with
  | false => exact .inl h.served.link
  | true =>
    cases h
    case answered => exact .inl rfl
    case setQuota => exact .inl (by simp)
    case setParameter n _ _ _ _ _ _ =>
      exact (State.afterParameter_mild _ n).link
    case editTable => exact .inl rfl
    case tableCommit =>
      obtain e | e := s.tableCommit_cases <;> rw [e] <;> exact .inl rfl
    case tableRevert => exact .inl rfl
    case trunkOn => exact s.trunkOn_quiet.link
    case trunkOff => exact s.trunkOff_quiet.link

theorem TrunkOp.linkTold {op : State → State} (h : TrunkOp op) (s : State) : LinkTold false s (op s) := by
  obtain hq | rfl := h.quiet (off := false) s
  · exact hq.link
  · exact .inl (s.leaseTimerExpiry_served .p0).link

/-- Settles O58: by what the command or event is; the transaction it opens and ends touches no flag. -/
theorem linkChangeIsRaised : Obligations.LinkChangeIsRaised := by
  intro s t c q h hc hlink
  have told {u v : State} (hv : LinkTold true u v) (hne : v.link.state ≠ u.link.state) : v.flagged q .linkChange := by
    obtain hv | ⟨-, hv⟩ := hv
    · exact absurd hv hne
    · exact hv q
  obtain ⟨-, ht⟩ | ⟨-, hu, hv, -, ht⟩ | ⟨-, hu⟩ | ⟨-, hop⟩ | - | hc' | - := exec_executed h
  · exact absurd ht.served.link hlink
  · have hflag := told hv.linkTold fun e => hlink (ht.served.link.trans (e.trans hu.served.link))
    rw [State.flagged] at hflag ⊢
    rw [ht.port q]
    exact hflag
  · exact absurd ((hu.served.trans (served_appendByte _ _ _ _)).link) hlink
  · obtain hl | ⟨-, hl⟩ := hop.linkTold s
    · exact absurd hl hlink
    · exact hl q
  · exact absurd rfl hlink
  · exact absurd hc' hc
  · exact absurd rfl hlink

/-! ### The other ports -/

/-- A command reaches the slot, mask, marks, transaction and lists of its own port alone. -/
theorem CommandEffect.spared {managed : Bool} (h : CommandEffect p s managed t) {q : Port} (hq : q ≠ p) :
    (s.port q).Spared (t.port q) := by
  cases managed with
  | false => exact (h.served.other q hq).toSpared
  | true =>
    cases h
    case answered => exact .refl _
    case setQuota r floor ceiling _ _ _ =>
      refine PortState.Spared.trans ?_ ((State.settlePool_mild true _).port q).toSpared
      rw [State.port_modPort]
      split
      · exact ⟨rfl, rfl, .refl _, rfl, rfl, ⟨[], by simp⟩, ⟨[], by simp⟩, rfl, rfl, rfl, rfl⟩
      · exact .refl _
    case setParameter n v _ _ _ _ _ =>
      exact ((State.afterParameter_mild { s with params := s.params.write n v } n).port q).toSpared
    case editTable => exact .refl _
    case tableCommit =>
      obtain e | e := s.tableCommit_cases <;> rw [e]
      · exact .refl _
      · exact ((State.raiseAll_mild true _ _).port q).toSpared
    case tableRevert => exact .refl _
    case trunkOn => exact ((s.trunkOn_quiet (off := true)).port q).toSpared
    case trunkOff => exact (s.trunkOff_quiet.port q).toSpared

theorem TrunkOp.spared {op : State → State} (h : TrunkOp op) (s : State) (q : Port) :
    (s.port q).Spared ((op s).port q) := by
  obtain hq | rfl := h.quiet (off := false) s
  · exact (hq.port q).toSpared
  · obtain ⟨p, hp⟩ : ∃ p : Port, q ≠ p := ⟨if q = .p0 then .p1 else .p0, by cases q <;> decide⟩
    exact ((s.leaseTimerExpiry_served p).other q hp).toSpared

/-- Settles O60: what the command or event spares of the other ports. -/
theorem portsAreIndependent : Obligations.PortsAreIndependent := by
  intro s t c q h hc hport
  have hspared : (s.port q).Spared (t.port q) := by
    obtain ⟨hp, ht⟩ | ⟨hp, hu, hv, -, ht⟩ | ⟨hp, hu⟩ | ⟨-, hop⟩ | - | hc' | - := exec_executed h
    · have hq : q ≠ _ := fun e => hport (e ▸ hp)
      exact (ht.served.other q hq).toSpared
    · have hq : q ≠ _ := fun e => hport (e ▸ hp)
      exact ((hu.served.other q hq).toSpared.trans (hv.spared hq)).trans (ht.served.other q hq).toSpared
    · have hq : q ≠ _ := fun e => hport (e ▸ hp)
      exact ((hu.served.trans (served_appendByte _ _ _ _)).other q hq).toSpared
    · exact hop.spared s q
    · exact .refl _
    · exact absurd hc' hc
    · exact .refl _
  obtain ⟨hslot, hmask, hflags, hhigh, hlow, hreceived, hcompleted, hprev, htxn, hout, hreply⟩ := hspared
  exact ⟨hslot, hmask, hflags, hhigh, hlow, hreceived, hcompleted, hprev, htxn, hout, hreply⟩

end

end Sys2Proof.Machine
end

section
/-! SUPPORT. The shared settings and the trunk belong to the lease holder (R159, R160): the trunk's own events never
leave OFF. -/

namespace Sys2Proof.Machine

section
variable {s : State}

/-- The quiet engine's fields, outside UP (R114). -/
theorem State.EngineQuietLaw.fields (h : s.EngineQuietLaw) (hup : s.link.state ≠ .up) :
    s.engine.ackTimer = .stopped ∧ s.engine.haltTimer = .stopped ∧ s.engine.haltingPeer = false ∧
      s.engine.round = none ∧ s.engine.flowOwed = .none ∧ s.engine.peerHalted = false := by
  rw [h hup]
  exact ⟨rfl, rfl, rfl, rfl, rfl, rfl⟩

theorem State.restartIdleTimer_linkState (s : State) : s.restartIdleTimer.link.state = s.link.state := by
  unfold State.restartIdleTimer
  split <;> rfl

theorem State.closeOf_off (hreceiver : s.ReceiverLaw) (hoff : s.link.state = .off) (t : Option FrameType) :
    s.closeOf t = s := by
  obtain ⟨hignoring, -, hcut⟩ := hreceiver
  have hrx : s.framer.rxState = .ignoring := hignoring.mpr hoff
  have hcut : s.framer.cut = false := by
    by_contra hcut'
    have := hcut (by simpa using hcut')
    rw [hrx] at this
    contradiction
  simp [State.closeOf, State.markerFound, Framer.helloCutOff, hrx, hcut]

/-- No event of the trunk and no timer leaves OFF (R57, R58, R79). -/
theorem TrunkOp.off {op : State → State} (h : TrunkOp op) (hs : s.LinkLaws) (hoff : s.link.state = .off) :
    (op s).link.state = .off := by
  obtain ⟨-, ⟨hhello, -, hinterval, hholdOff, hflush, -⟩, hreceiver, -, hquiet, -⟩ := hs
  have hnotUp : s.link.state ≠ .up := by rw [hoff]; decide
  have hrx : s.framer.rxState = .ignoring := hreceiver.1.mpr hoff
  obtain ⟨hackTimer, hhaltTimer, -⟩ := hquiet.fields hnotUp
  have hinterval : s.link.intervalTimer = .stopped := by simpa [hoff] using hinterval
  have hholdOff : s.link.holdOffTimer = .stopped := by simpa [hoff] using hholdOff
  have hflush : s.link.flushTimer = .stopped := by simpa [hoff] using hflush
  cases h
  case lineOctet => simpa [State.lineOctet, hrx] using hoff
  case markerFound => simpa [State.markerFound, hrx] using hoff
  case closeOf t => exact (congrArg (·.link.state) (State.closeOf_off hreceiver hoff t)).trans hoff
  case arbitrate => simp [State.arbitrate, State.mayArbitrate, hoff]
  case roundSend => simp [State.roundSend, State.mayResend, hoff]
  case rejectSend => simp [State.rejectSend, hoff]
  case haltSend => simp [State.flowSend, hoff]
  case goSend => simp [State.flowSend, hoff]
  case ackSend => simp [State.ackSend, State.mayAck, hoff]
  case helloSend => simp [State.helloSend, State.mayHello, hoff]
  case transmissionEnd =>
    unfold State.transmissionEnd
    split
    · exact hoff
    · rw [State.restartIdleTimer_linkState, State.endTransmission_link, hoff]
  case helloExpiry => simpa [State.helloExpiry, (hhello hoff).1] using hoff
  case intervalExpiry => simpa [State.intervalExpiry, hinterval] using hoff
  case holdOffExpiry => simpa [State.holdOffExpiry, hholdOff] using hoff
  case flushTimerExpiry => simpa [State.flushTimerExpiry, hflush] using hoff
  case ackTimerExpiry => simpa [State.ackTimerExpiry, hackTimer] using hoff
  case ackDelayExpiry =>
    unfold State.ackDelayExpiry
    split <;> exact hoff
  case haltTimerExpiry => simpa [State.haltTimerExpiry, hhaltTimer] using hoff
  case leaseTimerExpiry => rw [(s.leaseTimerExpiry_served .p0).link, hoff]
  case silence => simpa [State.silence, hreceiver.2.1.mpr hoff] using hoff
  case clockReturn => exact hoff

/-! ### The lease holder's settings -/

/-- From s to t the shared settings stay, and the trunk is not turned off. -/
structure Unshared (s t : State) : Prop where
  params : t.params = s.params
  quotas : ∀ q, (t.port q).floor = (s.port q).floor ∧ (t.port q).ceiling = (s.port q).ceiling
  entries : t.classifier.active.map (·.entry) = s.classifier.active.map (·.entry)
  trunk : t.link.state = .off → s.link.state = .off

theorem Unshared.trans {t u : State} (h : Unshared s t) (h' : Unshared t u) : Unshared s u where
  params := h'.params.trans h.params
  quotas q := ⟨(h'.quotas q).1.trans (h.quotas q).1, (h'.quotas q).2.trans (h.quotas q).2⟩
  entries := h'.entries.trans h.entries
  trunk := h.trunk ∘ h'.trunk

theorem Served.unshared {p : Port} {t : State} (h : Served p s t) : Unshared s t :=
  ⟨h.params, h.quotas, h.entries, fun hoff => h.link.symm.trans hoff⟩

theorem TrunkOp.unshared {op : State → State} (h : TrunkOp op) (s : State) : Unshared s (op s) := by
  obtain hq | rfl := h.quiet (off := false) s
  · refine ⟨hq.params, fun q => ⟨(hq.port q).floor, (hq.port q).ceiling⟩, hq.classifier.entries, fun hoff => ?_⟩
    obtain hlink | ⟨hne, -⟩ := hq.link
    · exact hlink.symm.trans hoff
    · exact absurd hoff (hne rfl)
  · exact (s.leaseTimerExpiry_served .p0).unshared

/-- A command of a port that is no management command, or comes without the lease, is served. -/
theorem CommandEffect.served_of_not_holder {p : Port} {managed : Bool} {t : State} (h : CommandEffect p s managed t)
    (hholder : managed = true → s.lease.holder ≠ some p) : Served p s t := by
  cases managed with
  | false => exact h.served
  | true =>
    rw [h.eq_of_not_holder (hholder rfl)]
    exact .refl p s

/-- Settles O59: a management command without the lease does nothing, and no other command reaches the shared
settings. -/
theorem sharedSettingsNeedTheLease : Obligations.SharedSettingsNeedTheLease := by
  intro s t c q h hc hlease
  suffices hkept : Unshared s t ∧ (s.LinkLaws → s.link.state = .off → t.link.state = .off) by
    obtain ⟨⟨hparams, hquotas, hentries, htrunk⟩, hoff⟩ := hkept
    exact ⟨hparams, (hquotas q).1, (hquotas q).2, hentries, htrunk, hoff⟩
  have served {p : Port} {t : State} (ht : Served p s t) :
      Unshared s t ∧ (s.LinkLaws → s.link.state = .off → t.link.state = .off) :=
    ⟨ht.unshared, fun _ hoff => ht.link.trans hoff⟩
  obtain ⟨-, ht⟩ | ⟨hp, hu, hv, hcode, ht⟩ | ⟨-, hu⟩ | ⟨-, hop⟩ | - | hc' | - := exec_executed h
  · exact served ht.served
  · refine served ((hu.served.trans (hv.served_of_not_holder fun hmanaged hholder => hlease ⟨?_, _, hp, ?_⟩)).trans
      ht.served)
    · rw [hcode]
      exact hmanaged
    · rw [← hholder, hu.eq]
  · exact served (hu.served.trans (served_appendByte _ _ _ _))
  · exact ⟨hop.unshared s, hop.off⟩
  · exact served (.refl .p0 s)
  · exact absurd hc' hc
  · exact ⟨⟨rfl, fun _ => ⟨rfl, rfl⟩, rfl, id⟩, fun _ hoff => hoff⟩

end

end Sys2Proof.Machine
end

section
/-! SUPPORT. No command sees the transaction in which it is taken (R165, R166): its effect is the same before and after
the fall of chip select. The commands that only read, the event unit's, the lease's end and the test on the lease. -/

namespace Sys2Proof.Machine

/-- An operation that neither sees nor changes a port's transaction. -/
def TxnBlind (op : State → State) : Prop :=
  ∀ (s : State) (p : Port) (header : List Byte), op (s.modPort p (·.fall header)) = (op s).modPort p (·.fall header)

theorem TxnBlind.comp {f g : State → State} (hg : TxnBlind g) (hf : TxnBlind f) : TxnBlind (g ∘ f) := fun s p header => by
  rw [Function.comp_apply, hf, hg, Function.comp_apply]

theorem TxnBlind.foldl {α : Type} {f : State → α → State} (h : ∀ x, TxnBlind (f · x)) (l : List α) :
    TxnBlind (l.foldl f ·) := fun _ p header =>
  List.foldl_hom (fun t => State.modPort t p (·.fall header)) fun t x => h x t p header

theorem txnBlind_modPort (q : Port) {f : PortState → PortState} (hf : ∀ ps header, f (ps.fall header) = (f ps).fall header) :
    TxnBlind (·.modPort q f) := fun s p header => s.modPort_fall p q header fun ps => hf ps header

/-! ### The lease, PORT RESET -/

theorem State.raise_txnBlind (q : Port) (e : Event) : TxnBlind (·.raise q e) := txnBlind_modPort q fun _ _ => rfl

/-- The old holder is told of the end of its holding on expiry alone (R154). -/
def State.tellLost (expired : Bool) (h : Port) (s : State) : State := if expired then s.raise h .leaseLost else s

/-- The lease goes to the head of the waiting list, or becomes FREE (R154). -/
def State.passLease (s : State) : State :=
  match s.lease.waiting with
  | [] => { s with lease := { holder := none, timer := .stopped, waiting := [] } }
  | q :: rest =>
    State.raise { s with lease := { holder := some q, timer := .running s.params.tLease, waiting := rest } } q
      .leaseGranted

theorem State.endHolding_of_holder {s : State} {h : Port} (hholder : s.lease.holder = some h) (expired : Bool) :
    s.endHolding expired =
      ((State.tellLost expired h { s with classifier := s.classifier.revert })).passLease := by
  unfold State.endHolding
  rw [hholder]
  cases expired <;> rfl

theorem State.tellLost_txnBlind (expired : Bool) (h : Port) : TxnBlind (State.tellLost expired h) := fun s p header => by
  cases expired
  · rfl
  · exact State.raise_txnBlind h .leaseLost s p header

theorem State.passLease_txnBlind : TxnBlind State.passLease := fun s p header => by
  unfold State.passLease
  rw [State.modPort_lease]
  split
  · rfl
  · next q rest _ =>
    exact State.raise_txnBlind q .leaseGranted
      { s with lease := { holder := some q, timer := .running s.params.tLease, waiting := rest } } p header

theorem State.endHolding_fall (s : State) (p : Port) (header : List Byte) (expired : Bool) :
    (s.modPort p (·.fall header)).endHolding expired = (s.endHolding expired).modPort p (·.fall header) := by
  cases hholder : s.lease.holder with
  | none =>
    have hnone {t : State} (ht : t.lease.holder = none) : t.endHolding expired = t := by
      rw [State.endHolding, ht]
    rw [hnone (State.modPort_lease s p (·.fall header) ▸ hholder), hnone hholder]
  | some h =>
    rw [State.endHolding_of_holder (State.modPort_lease s p (·.fall header) ▸ hholder), State.endHolding_of_holder hholder,
      ← State.passLease_txnBlind, ← State.tellLost_txnBlind]
    rfl

theorem State.resetFrames_fall (s : State) (p q : Port) (header : List Byte) :
    (s.modPort p (·.fall header)).resetFrames q = (s.resetFrames q).modPort p (·.fall header) := by
  have hunsent : ((s.modPort p (·.fall header)).port q).unsentFrames = (s.port q).unsentFrames :=
    State.read_fall (g := PortState.unsentFrames) (fun _ => rfl) s p q
  unfold State.resetFrames
  rw [hunsent, State.returnFrames_fall]
  exact State.modPort_fall _ p q header fun _ => rfl

theorem State.resetLists_fall (s : State) (p q : Port) (header : List Byte) :
    (s.modPort p (·.fall header)).resetLists q = (s.resetLists q).modPort p (·.fall header) := by
  unfold State.resetLists
  rw [State.rx_fall, s.modPort_fall p q header fun _ => rfl]
  exact TxnBlind.foldl (fun r t p header => t.dropReference_fall p q header r.frame) _ _ p header

theorem State.resetLease_fall (s : State) (p q : Port) (header : List Byte) :
    (s.modPort p (·.fall header)).resetLease q = (s.resetLease q).modPort p (·.fall header) := by
  unfold State.resetLease
  rw [State.modPort_lease]
  split
  · exact s.endHolding_fall p header false
  · rfl

theorem State.portReset_fall (s : State) (p q : Port) (header : List Byte) :
    (s.modPort p (·.fall header)).portReset q = (s.portReset q).modPort p (·.fall header) := by
  have horphan (t : State) : (t.modPort p (·.fall header)).orphan q = (t.orphan q).modPort p (·.fall header) := rfl
  unfold State.portReset
  rw [s.resetFrames_fall p q header, horphan, State.resetLists_fall, State.resetLease_fall, State.settlePool_fall,
    State.modPort_fall _ p q header fun _ => rfl]
  rfl

/-! ### The trunk -/

theorem State.convertSlot_txnBlind (q : Port) (f : Frame) (o : CplOutcome) : TxnBlind (·.convertSlot q f o) :=
  txnBlind_modPort q fun _ _ => rfl

theorem State.failFrame_txnBlind (q : Port) (o : CplOutcome) (f : Frame) : TxnBlind (·.failFrame q o f) :=
  fun s p header => by
    beta_reduce
    unfold State.failFrame
    rw [State.freeFrame_fall]
    split
    · exact State.convertSlot_txnBlind q f o _ p header
    · rfl

theorem State.failQueue_txnBlind (o : CplOutcome) (q : Port) : TxnBlind (·.failQueue o q) := fun s p header => by
  beta_reduce
  unfold State.failQueue
  rw [State.queue_fall, s.modPort_fall p q header fun _ => rfl]
  exact TxnBlind.foldl (fun f => State.failFrame_txnBlind q o f) _ _ p header

theorem State.failWaiting_fall (s : State) (p : Port) (header : List Byte) (o : CplOutcome) :
    (s.modPort p (·.fall header)).failWaiting o = (s.failWaiting o).modPort p (·.fall header) :=
  TxnBlind.foldl (State.failQueue_txnBlind o) Port.all s p header

theorem State.failEntry_txnBlind (e : WindowEntry) : TxnBlind (·.failEntry e) := fun s p header => by
  beta_reduce
  unfold State.failEntry
  rw [State.freeFrame_fall]
  split
  · exact State.convertSlot_txnBlind e.owner e.frame .linkOff _ p header
  · rfl

theorem State.failWindow_txnBlind : TxnBlind State.failWindow := fun s p header =>
  TxnBlind.foldl State.failEntry_txnBlind s.engine.window { s with engine := { s.engine with window := [] } } p header

theorem State.endTransmission_txnBlind (closing : List Byte) : TxnBlind (·.endTransmission closing) := fun s p header => by
  have hframer : (s.modPort p (·.fall header)).framer = s.framer := rfl
  beta_reduce
  unfold State.endTransmission
  rw [hframer]
  cases s.framer.tx with
  | idle => rfl
  | sending t =>
    obtain ⟨kind, octets, held⟩ := t
    cases held with
    | none => rfl
    | some x =>
      exact State.freeFrame_fall
        { s with
          framer := { s.framer with tx := .idle, closing := closing }
          engine := { s.engine with window := s.engine.window.map fun e => { e with onLine := false } } } p x.1 header x.2

theorem State.abortTransmission_txnBlind : TxnBlind State.abortTransmission := fun s p header => by
  have hframer : (s.modPort p (·.fall header)).framer = s.framer := rfl
  unfold State.abortTransmission
  rw [hframer]
  cases s.framer.tx with
  | idle => rfl
  | sending t => exact State.endTransmission_txnBlind _ { s with freeTick := s.freeTick + 1 } p header

theorem State.releaseInbound_txnBlind : TxnBlind State.releaseInbound := fun s p header => by
  unfold State.releaseInbound
  rw [State.modPort_pool]
  split
  · rfl
  · rw [← State.settlePool_fall]
    rfl

theorem State.cutOff_fall (s : State) (p : Port) (header : List Byte) (after : RxState) :
    (s.modPort p (·.fall header)).cutOff after = (s.cutOff after).modPort p (·.fall header) := by
  have hframer : (s.modPort p (·.fall header)).framer = s.framer := rfl
  unfold State.cutOff
  rw [State.releaseInbound_txnBlind, hframer]
  split <;> rfl

theorem State.setLinkState_txnBlind (l : LinkState) : TxnBlind (·.setLinkState l) := fun s p header =>
  (PoolBlind.fall header).raiseAll { s with link := { s.link with state := l } } p .linkChange

theorem State.flushExpiry_txnBlind : TxnBlind State.flushExpiry := fun s p header => by
  unfold State.flushExpiry
  rw [State.failWaiting_fall]
  rfl

theorem State.startFlushTimer_txnBlind : TxnBlind State.startFlushTimer := fun s p header => by
  unfold State.startFlushTimer
  rw [State.modPort_link, State.modPort_params, State.flushExpiry_txnBlind]
  split
  · rfl
  · split <;> rfl

theorem State.trunkOn_fall (s : State) (p : Port) (header : List Byte) :
    (s.modPort p (·.fall header)).trunkOn = s.trunkOn.modPort p (·.fall header) := by
  unfold State.trunkOn
  rw [State.modPort_link]
  split
  · rw [← State.startFlushTimer_txnBlind]
    exact congrArg State.startFlushTimer (State.setLinkState_txnBlind .seeking
      { s with
        framer := { s.framer with rxState := .hunting, watch := .running }
        link :=
          { s.link with
            confCount := 0, lossCount := 0, heard := false, helloDue := true
            helloTimer := .running s.params.tHello, intervalTimer := .stopped, holdOffTimer := .stopped } } p header)
  · rfl

theorem State.trunkOff_fall (s : State) (p : Port) (header : List Byte) :
    (s.modPort p (·.fall header)).trunkOff = s.trunkOff.modPort p (·.fall header) := by
  unfold State.trunkOff
  rw [State.modPort_link, State.abortTransmission_txnBlind, State.failWindow_txnBlind, State.failWaiting_fall,
    State.cutOff_fall]
  generalize ((s.abortTransmission.failWindow).failWaiting .linkOff).cutOff .ignoring = t
  split
  · rfl
  · exact State.setLinkState_txnBlind .off
      { t with
        framer := { t.framer with rxState := .ignoring, watch := .stopped, cut := false }
        engine := t.engine.quiet
        link :=
          { t.link with
            flushTimer := .stopped, flushed := false, helloTimer := .stopped, helloDue := false
            intervalTimer := .stopped, holdOffTimer := .stopped, heard := false, confCount := 0, lossCount := 0 } }
      p header

/-! ### The commands that only read -/

theorem State.readStatus_fall (s : State) (p : Port) (header : List Byte) :
    (s.modPort p (·.fall header)).readStatus p = (s.readStatus p).modPort p (·.fall header) := by
  have hreply : (s.modPort p (·.fall header)).statusReply p = s.statusReply p := by
    unfold State.statusReply
    rw [State.port_modPort_same, (PoolBlind.fall header).sharedFree]
    rfl
  rw [State.readStatus, hreply]
  rfl

theorem State.readEvents_fall (s : State) (p : Port) (header : List Byte) :
    (s.modPort p (·.fall header)).readEvents p = (s.readEvents p).modPort p (·.fall header) := by
  rw [State.readEvents, State.port_modPort_same]
  rfl

theorem State.peekRecord_fall (s : State) (p : Port) (header : List Byte) :
    (s.modPort p (·.fall header)).peekRecord p = (s.peekRecord p).modPort p (·.fall header) := by
  unfold State.peekRecord
  rw [State.rx_fall]
  split <;> rfl

theorem State.readParameter_fall (s : State) (p : Port) (header : List Byte) (n : Nat) :
    (s.modPort p (·.fall header)).readParameter n = (s.readParameter n).modPort p (·.fall header) := by
  unfold State.readParameter
  rw [State.modPort_params]
  split <;> rfl

theorem State.tableRead_fall (s : State) (p : Port) (header : List Byte) (shadow : Bool) (i : Nat) :
    (s.modPort p (·.fall header)).tableRead shadow i = (s.tableRead shadow i).modPort p (·.fall header) := by
  have hclassifier : (s.modPort p (·.fall header)).classifier = s.classifier := rfl
  unfold State.tableRead
  rw [hclassifier]
  split <;> split <;> rfl

/-! ### Every command -/

theorem State.ifHolder_fall (s : State) (p q : Port) (header : List Byte) {act : State → Taken}
    (h : act (s.modPort p (·.fall header)) = (act s).modPort p (·.fall header)) :
    (s.modPort p (·.fall header)).ifHolder q (act (s.modPort p (·.fall header))) =
      (s.ifHolder q (act s)).modPort p (·.fall header) := by
  rw [h, State.ifHolder_modPort]

/-- A taken command neither sees nor changes its transaction. -/
theorem hostAct_fall {c : Instr} {p : Port} {code : Byte} (hp : c.port? = some p) (hcode : commandByte c = some code)
    (s : State) (header : List Byte) :
    hostAct p code (argumentBytes c) (s.modPort p (·.fall header)) =
      (hostAct p code (argumentBytes c) s).modPort p (·.fall header) := by
  have taken (op : State → State) (h : op (s.modPort p (·.fall header)) = (op s).modPort p (·.fall header)) :
      ({ state := op (s.modPort p (·.fall header)), result := .ok } : Taken) =
        ({ state := op s, result := .ok } : Taken).modPort p (·.fall header) := by
    rw [h]
    rfl
  cases c <;> cases hp <;> cases hcode
  case nop => rfl
  case readStatus => exact s.readStatus_fall p header
  case readEvents => exact s.readEvents_fall p header
  case ackEvents w =>
    exact taken (·.modPort p fun ps => { ps with events := ps.events.acknowledge (eventFieldArg (wordOf _ _)) })
      (s.modPort_fall p p header fun _ => rfl)
  case setEventMask w =>
    exact taken (·.modPort p fun ps => { ps with events := ps.events.setMask (eventFieldArg (wordOf _ _)) })
      (s.modPort_fall p p header fun _ => rfl)
  case setMarks high low => exact s.setMarks_fall p header _ _
  case readLink => rfl
  case portReset => exact s.portReset_fall p p header
  case openFrame w => exact s.openFrame_fall p header _
  case appendData => exact s.appendData_fall p header
  case commitTrunk w cls tag options => exact s.commitTrunk_fall p header _ cls tag options
  case commitLocal targets cls tag options => exact s.commitLocal_fall p header targets cls tag options
  case discardFrame => exact s.discardFrame_fall p header
  case cancel tag => exact s.cancel_fall p header tag
  case peekRecord => exact s.peekRecord_fall p header
  case readFrame w => exact s.readFrame_fall p header _
  case releaseRecord => exact s.releaseRecord_fall p header
  case takeCompletion => exact s.takeCompletion_fall p header
  case leaseAcquire options => exact s.acquire_fall p p header _
  case leaseRenew => exact s.ifHolder_fall p p header (act := fun t => { state := t.startLeaseTimer, result := .ok }) rfl
  case leaseRelease =>
    exact s.ifHolder_fall p p header (act := fun t => { state := t.endHolding false, result := .ok })
      (taken (·.endHolding false) (s.endHolding_fall p header false))
  case leaseWithdraw => exact s.withdraw_fall p p header
  case setQuota port floor w =>
    exact s.ifHolder_fall p p header (act := (·.setQuota port.toNat floor.toNat _)) (s.setQuota_fall p header _ _ _)
  case setParameter number w =>
    exact s.ifHolder_fall p p header (act := (·.setParameter number.toNat _)) (s.setParameter_fall p header _ _)
  case readParameter number => exact s.readParameter_fall p header _
  case tableWrite index address mask hosts flags =>
    exact s.ifHolder_fall p p header (act := fun t => t.tableWrite index.toNat _ _ _ _)
      (s.tableWrite_fall p header _ _ _ _ _)
  case tableClear index =>
    exact s.ifHolder_fall p p header (act := (·.tableClear index.toNat)) (s.tableClear_fall p header _)
  case tableRead selector index => exact s.tableRead_fall p header _ _
  case tableCommit =>
    exact s.ifHolder_fall p p header (act := fun t => { state := t.tableCommit, result := .ok })
      (taken State.tableCommit (s.tableCommit_fall p header))
  case tableRevert =>
    exact s.ifHolder_fall p p header
      (act := fun t => { state := { t with classifier := t.classifier.revert }, result := .ok }) rfl
  case trunkOn =>
    exact s.ifHolder_fall p p header (act := fun t => { state := t.trunkOn, result := .ok })
      (taken State.trunkOn (s.trunkOn_fall p header))
  case trunkOff =>
    exact s.ifHolder_fall p p header (act := fun t => { state := t.trunkOff, result := .ok })
      (taken State.trunkOff (s.trunkOff_fall p header))

end Sys2Proof.Machine
end

section
/-! SUPPORT. What a ready port answers to the commands that only read, to those of the event unit, to LEASE RELEASE and
to a management command without the lease; the status byte; and the ends of transactions. -/

namespace Sys2Proof.Machine

/-- A taken command answers with its effect on the state as it stands (R165 to R167). -/
theorem exec_ready {c : Instr} {p : Port} {code : Byte} (hp : c.port? = some p) (hcode : commandByte c = some code)
    {s : State} (h : s.Ready p) :
    exec c s = .next (s.answeredBy p (argumentBytes c).length (hostAct p code (argumentBytes c) s)) := by
  rw [exec_eq_takeCommand hp hcode, State.takeCommand_answeredBy h _ fun header => hostAct_fall hp hcode s header]

/-! ### The lease -/

theorem State.takeCommand_not_holder {s : State} {p : Port} (h : s.Ready p) (hholder : s.lease.holder ≠ some p) (n : Nat)
    (act : State → Taken) : s.takeCommand p n (fun t => t.ifHolder p (act t)) = s.answered p n .notHolder [] s := by
  have hfall : (s.modPort p (·.fall (s.header p))).ifHolder p (act (s.modPort p (·.fall (s.header p)))) =
      (s.ifHolder p (act s)).modPort p (·.fall (s.header p)) := by
    rw [State.ifHolder_of_not_holder hholder,
      State.ifHolder_of_not_holder (State.modPort_lease s p (·.fall (s.header p)) ▸ hholder)]
    rfl
  rw [State.takeCommand_ready h n hfall, State.ifHolder_of_not_holder hholder]
  rfl

/-- Settles O24: every management command is judged on the lease before anything else. -/
theorem notHolder : Obligations.NotHolder := by
  intro s c p code n hmanaged hp hcode hargs hready hholder
  have refused (m : Nat) (act : State → Taken) (hn : n = m) :
      Host.Outcome.next (s.takeCommand p m fun t => t.ifHolder p (act t)) =
        (.next (s.answered p n .notHolder [] s) : Host.Outcome State Fault Refusal) := by
    rw [State.takeCommand_not_holder hready hholder, hn]
  unfold Instr.isManagement at hmanaged
  rw [hcode] at hmanaged
  cases c <;> cases hcode
  case setQuota => cases hp; exact refused 4 _ (Option.some.inj hargs).symm
  case setParameter => cases hp; exact refused 3 _ (Option.some.inj hargs).symm
  case tableWrite => cases hp; exact refused 7 _ (Option.some.inj hargs).symm
  case tableClear => cases hp; exact refused 1 _ (Option.some.inj hargs).symm
  case tableCommit => cases hp; exact refused 0 _ (Option.some.inj hargs).symm
  case tableRevert => cases hp; exact refused 0 _ (Option.some.inj hargs).symm
  case trunkOn => cases hp; exact refused 0 _ (Option.some.inj hargs).symm
  case trunkOff => cases hp; exact refused 0 _ (Option.some.inj hargs).symm
  all_goals exact absurd hmanaged (by decide)

/-- Settles O21: both ways end in the same operation, which tells the old holder on expiry alone. -/
theorem endOfHolding : Obligations.EndOfHolding := by
  intro s p h n
  refine ⟨fun hready hholder => ?_, fun hready hholder => ?_, fun hreset hholder htimer => ?_⟩
  · have hrelease : exec (.leaseRelease p) s = .next (s.answeredBy p 0 (s.releaseLease p)) :=
      exec_ready (c := .leaseRelease p) rfl rfl hready
    rw [hrelease, State.releaseLease, State.ifHolder_of_holder hholder, State.endHolding_of_holder hholder]
    rfl
  · exact congrArg Host.Outcome.next (State.takeCommand_not_holder hready hholder 0 _)
  · have hexpiry : exec .leaseTimerExpiry s = .next s.leaseTimerExpiry :=
      congrArg Host.Outcome.next (State.trunkEvent_live hreset _)
    rw [hexpiry, State.leaseTimerExpiry, htimer, State.endHolding_of_holder hholder]
    rfl

/-! ### The commands that only read -/

theorem Params.value?_isSome {n : Nat} (h : n ≤ 14) (q : Params) : ∃ v, q.value? n = some v := by
  rw [Params.value?_eq]
  exact ⟨_, List.getElem?_eq_getElem (Nat.lt_succ_of_le h)⟩

theorem Params.value?_eq_none {n : Nat} (h : 14 < n) (q : Params) : q.value? n = none := by
  rw [Params.value?_eq]
  exact List.getElem?_eq_none h

/-- Settles O9: each reads the state as it stands and answers with it. -/
theorem readingCommands : Obligations.ReadingCommands := by
  intro s p r rest number selector index a e hready
  have ready (c : Instr) {code : Byte} {t : Taken} (hp : c.port? = some p) (hcode : commandByte c = some code)
      (h : hostAct p code (argumentBytes c) s = t) :
      exec c s = .next (s.answeredBy p (argumentBytes c).length t) := h ▸ exec_ready hp hcode hready
  refine ⟨ready (.nop p) rfl rfl rfl, ready (.readStatus p) rfl rfl rfl, ?link, fun hempty => ?empty, fun hhead => ?head,
    fun hnumber => ?value, fun hnumber => ?noValue, fun hselector hentry => ?active, fun hselector hentry => ?shadow, fun hlaw hindex => ?noEntry⟩
  case link =>
    have hread : hostAct p 0x06#8 [] s = s.answers .ok s.linkReply := rfl
    unfold State.linkReply at hread
    cases hpeer : s.link.peer <;> rw [hpeer] at hread <;> exact ready (.readLink p) rfl rfl hread
  case empty =>
    have hpeek : s.peekRecord p = s.answers .empty (zeros 8) := by rw [State.peekRecord, hempty]
    exact ready (.peekRecord p) rfl rfl hpeek
  case head =>
    have hpeek : s.peekRecord p = s.answers .ok (peekReply r) := by rw [State.peekRecord, hhead]
    exact ready (.peekRecord p) rfl rfl hpeek
  case value =>
    obtain ⟨v, hv⟩ := Params.value?_isSome hnumber s.params
    exact ⟨v, hv, ready (.readParameter p number) rfl rfl (show s.readParameter number.toNat = s.answers .ok (count16 v) by
      rw [State.readParameter, hv])⟩
  case noValue =>
    exact ready (.readParameter p number) rfl rfl (show s.readParameter number.toNat = s.answers .badArg (zeros 2) by
      rw [State.readParameter, Params.value?_eq_none hnumber])
  case active =>
    exact ready (.tableRead p selector index) rfl rfl (show
      s.tableRead (selectsShadow selector) index.toNat = s.answers .ok _ by
      rw [State.tableRead, show selectsShadow selector = false from hselector, hentry]
      rfl)
  case shadow =>
    exact ready (.tableRead p selector index) rfl rfl (show
      s.tableRead (selectsShadow selector) index.toNat = s.answers .ok _ by
      rw [State.tableRead, show selectsShadow selector = true from hselector, hentry]
      rfl)
  case noEntry =>
    obtain ⟨hactive, hshadow, -⟩ := hlaw
    have hactive : s.classifier.active[index.toNat]? = none := List.getElem?_eq_none (hactive ▸ hindex)
    have hshadow : s.classifier.shadow[index.toNat]? = none := List.getElem?_eq_none (hshadow ▸ hindex)
    have hread : s.tableRead (selectsShadow selector) index.toNat = s.answers .badArg (zeros 8) := by
      rw [State.tableRead, hactive, hshadow, ite_self]
    exact ready (.tableRead p selector index) rfl rfl hread

/-! ### The event unit -/

theorem Event.rank_pos (e : Event) : 0 < e.rank := by cases e <;> decide

theorem Event.rank_le (e : Event) : e.rank ≤ 11 := by cases e <;> decide

/-- Every rank is an event's. -/
theorem Event.exists_rank {i : Nat} (h : i < 11) : ∃ e : Event, e.rank = i + 1 := by
  have hall : ∀ i < 11, ∃ e ∈ [Event.leaseLost, .linkChange, .rxRefused, .poolLow, .rxHigh, .txDone, .rxReady,
      .leaseGranted, .tableSwapped, .rxLow, .unclaimed], e.rank = i + 1 := by decide
  obtain ⟨e, -, he⟩ := hall i h
  exact ⟨e, he⟩

/-- A flag shows when its bit of flags and enables is set (R171). -/
theorem EventUnit.shows_iff (u : EventUnit) (e : Event) :
    u.shows e ↔ (u.flags &&& u.mask).getLsbD (e.rank - 1) = true := by
  have hbit : e.bit = BitVec.twoPow 11 (e.rank - 1) := rfl
  have hne : BitVec.twoPow 11 (e.rank - 1) ≠ 0#11 := hbit ▸ e.bit_ne_zero
  unfold EventUnit.shows
  rw [hbit, BitVec.and_twoPow]
  split
  · next h => exact ⟨fun _ => h, fun _ => hne⟩
  · next h => exact ⟨fun hzero => absurd rfl hzero, fun hset => absurd hset h⟩

/-- The top rank is 0 with no flag shown, else the lowest rank that shows (R172). -/
theorem EventUnit.topRank_cases (u : EventUnit) :
    (u.topRank = 0 ∧ ∀ e, ¬u.shows e) ∨
      ∃ e : Event, u.topRank = e.rank ∧ u.shows e ∧ ∀ d, u.shows d → e.rank ≤ d.rank := by
  unfold EventUnit.topRank
  split
  · next i hfind =>
    obtain ⟨hshown, hlt, hbefore⟩ := List.find?_range_eq_some.mp hfind
    obtain ⟨e, he⟩ := Event.exists_rank (List.mem_range.mp hlt)
    refine .inr ⟨e, he.symm, ?_, fun d hd => ?_⟩
    · rw [EventUnit.shows_iff, he]
      exact hshown
    · by_contra hlt
      have := hbefore (d.rank - 1) (by have := d.rank_pos; omega)
      rw [(u.shows_iff d).mp hd] at this
      contradiction
  · next hfind =>
    refine .inl ⟨rfl, fun e he => ?_⟩
    rw [EventUnit.shows_iff] at he
    have hlt : e.rank - 1 ∈ List.range 11 := by
      have := e.rank_pos
      have := e.rank_le
      exact List.mem_range.mpr (by omega)
    exact absurd he (List.find?_eq_none.mp hfind _ hlt)

/-- Settles O10: READ EVENTS reads the unit, the other two replace a field of it and refresh the line. -/
theorem eventCommands : Obligations.EventCommands := by
  intro s p w hready
  refine ⟨⟨(s.port p).events.topRank, exec_ready (c := .readEvents p) rfl rfl hready, ?_, fun e => ?_⟩, ?_, ?_⟩
  · obtain ⟨htop, hnone⟩ | ⟨e, htop, hshown, -⟩ := (s.port p).events.topRank_cases
    · exact ⟨fun _ => hnone, fun _ => htop⟩
    · rw [htop]
      exact ⟨fun h => absurd h e.rank_pos.ne', fun h => absurd hshown (h e)⟩
  · obtain ⟨htop, hnone⟩ | ⟨d, htop, hshown, hleast⟩ := (s.port p).events.topRank_cases
    · rw [htop]
      exact ⟨fun h => absurd h.symm e.rank_pos.ne', fun h => absurd h.1 (hnone e)⟩
    · rw [htop]
      refine ⟨fun h => ?_, fun ⟨he, heleast⟩ => le_antisymm (hleast e he) (heleast d hshown)⟩
      obtain rfl : d = e := by revert h; cases d <;> cases e <;> decide
      exact ⟨hshown, hleast⟩
  · exact congrArg Host.Outcome.next (State.takeCommand_answeredBy hready 2 (act := (·.ackEvents p w)) fun header =>
      congrArg (fun t => ({ state := t, result := .ok } : Taken)) (s.modPort_fall p p header fun _ => rfl))
  · exact congrArg Host.Outcome.next (State.takeCommand_answeredBy hready 2 (act := (·.setEventMask p w)) fun header =>
      congrArg (fun t => ({ state := t, result := .ok } : Taken)) (s.modPort_fall p p header fun _ => rfl))

end Sys2Proof.Machine
end

section
/-! SUPPORT. The status byte (R169), and the transactions of a port: their ends, and what RESET does to them (R165, R167,
R168, R175). -/

namespace Sys2Proof.Machine

/-! ### The status byte -/

theorem getLsbD_bitAt (b : Bool) {i j : Nat} (hi : i < 8) (hj : j < 8) : (bitAt i b).getLsbD j = (b && i == j) := by
  have table : ∀ i < 8, ∀ j < 8, (bitAt i true).getLsbD j = (i == j) := by decide
  cases b
  · simp [bitAt]
  · rw [table i hi j hj, Bool.true_and]

/-- Settles O7: each condition stands at its own bit. -/
theorem statusByteBits : Obligations.StatusByteBits := by
  intro s p
  have hqueue : s.transmitCount p = Config.transmitLimit ↔
      (s.port p).queue.length + (s.engine.window.filter (·.owner == p)).length = 16 := Iff.rfl
  refine ⟨?_, ?_, ?_, ?_, ?_, ?_, ?_, ?_⟩
  all_goals
    simp only [State.statusByte, BitVec.getLsbD_or, getLsbD_bitAt, Nat.reduceLT]
    simp [EventUnit.pending, ← hqueue, Option.isSome_iff_ne_none]

/-! ### The ends of a transaction -/

theorem Txn.result?_eq_none {x : Txn} (h : x = .selected [] ∨ x = .ignored) : x.result? = none := by
  obtain rfl | rfl := h <;> rfl

/-- Settles O8: the edge and the transaction it meets decide. -/
theorem endOfTransaction : Obligations.EndOfTransaction := by
  intro s p r ph code args ended
  have rise {result : Result} (hopen : (s.port p).txn ≠ .closed)
      (hresult : (s.port p).txn.result?.getD (s.port p).prevResult = result) :
      exec (.transactionEnd p .rise) s = .next (ended result) := by
    refine congrArg Host.Outcome.next ((if_neg hopen).trans (State.modPort_congr ?_))
    rw [PortState.rise, hresult]
  refine ⟨fun hreset hclosed => ?_, fun hopen => ?_, fun hclosed => ?_, fun hopened => ?_, fun htruncated => ?_,
    fun hignored => ?_, fun hready hillegal => ?_⟩
  · refine congrArg Host.Outcome.next ((if_pos hclosed).trans (State.modPort_congr ?_))
    rw [hreset]
    rfl
  · exact congrArg Host.Outcome.next (if_neg hopen)
  · exact congrArg Host.Outcome.next (if_pos hclosed)
  · exact rise (by rw [hopened]; nofun) (by rw [hopened]; rfl)
  · exact rise (by rw [htruncated]; nofun) (by rw [htruncated]; rfl)
  · exact rise (by obtain h | h := hignored <;> rw [h] <;> nofun) (by rw [Txn.result?_eq_none hignored]; rfl)
  · exact congrArg Host.Outcome.next ((if_pos hillegal).trans (State.takeCommand_answeredBy hready 0 fun _ => rfl))

/-! ### Transactions and RESET -/

/-- A row that shifts bytes in is a command of a port, and takes it with some number of argument bytes. -/
theorem exec_of_hostBytes {c : Instr} {p : Port} (hp : c.port? = some p) (hbytes : (hostBytes c).isSome) :
    ∃ n act, ∀ s, exec c s = .next (s.takeCommand p n act) := by
  have command {code : Byte} (hcode : commandByte c = some code) :
      ∃ n act, ∀ s, exec c s = .next (s.takeCommand p n act) := ⟨_, _, exec_eq_takeCommand hp hcode⟩
  cases c
  case illegal q code =>
    cases hp
    by_cases hillegal : commandArgs code = none
    · exact ⟨0, State.illegal, fun s => congrArg Host.Outcome.next (if_pos hillegal)⟩
    · have hnone : hostBytes (.illegal p code) = none := if_neg hillegal
      rw [hnone] at hbytes
      contradiction
  all_goals first
    | exact command rfl
    | exact absurd hbytes (Bool.false_ne_true)

theorem State.takeCommand_ignored {s : State} {p : Port} (hreset : s.resetAsserted = false)
    (h : (s.port p).txn = .ignored) (n : Nat) (act : State → Taken) : s.takeCommand p n act = s := by
  unfold State.takeCommand
  rw [hreset, h]
  rfl

/-- The rest of a reply is no part of the status byte. -/
theorem State.header_withoutReply (s : State) (p : Port) :
    (s.modPort p fun ps => { ps with reply := [] }).header p = s.header p := by
  have hblind : PoolBlind fun ps => { ps with reply := [] } := ⟨fun _ => rfl, fun _ _ => rfl⟩
  unfold State.header State.statusByte State.transmitCount
  rw [State.port_modPort_same, hblind.sharedFree]
  rfl

theorem State.selectPort_closed {s : State} {p : Port} (hreset : s.resetAsserted = false)
    (h : (s.port p).txn = .closed) : s.selectPort p = s.modPort p (·.fall (s.header p)) := by
  unfold State.selectPort
  rw [if_pos h, hreset]
  rfl

/-- A transaction whose command was taken has ended before the next command (log 2). -/
theorem State.takeCommand_opened {s : State} {p : Port} {r : Result} {ph : DataPhase} (hreset : s.resetAsserted = false)
    (h : (s.port p).txn = .opened r ph) (n : Nat) (act : State → Taken) :
    s.takeCommand p n act =
      (s.modPort p fun ps => { ps with prevResult := r, txn := .closed }).takeCommand p n act := by
  have hclosed : ((s.modPort p fun ps => { ps with prevResult := r, txn := .closed }).port p).txn = .closed := by
    rw [State.port_modPort_same]
  have hrise : s.modPort p (·.rise) =
      (s.modPort p fun ps => { ps with prevResult := r, txn := .closed }).modPort p fun ps =>
        { ps with reply := [] } := by
    rw [State.modPort_modPort]
    refine State.modPort_congr ?_
    rw [PortState.rise, h]
    rfl
  have hopened : s.takeCommand p n act = ((s.modPort p (·.rise)).selectPort p).takeBytes p (n + 1) act := by
    rw [State.takeCommand, hreset, h]
    rfl
  have hreset' : (s.modPort p fun ps => { ps with prevResult := r, txn := .closed }).resetAsserted = false := hreset
  generalize (s.modPort p fun ps => { ps with prevResult := r, txn := .closed }) = u at hclosed hrise hreset' ⊢
  have htaken : u.takeCommand p n act = (u.selectPort p).takeBytes p (n + 1) act := by
    rw [State.takeCommand, hreset', hclosed]
    rfl
  have hclosed' : ((u.modPort p fun ps => { ps with reply := [] }).port p).txn = .closed := by
    rw [State.port_modPort_same]
    exact hclosed
  have hselect : (u.modPort p fun ps => { ps with reply := [] }).selectPort p = u.selectPort p := by
    rw [State.selectPort_closed (s := u.modPort p fun ps => { ps with reply := [] }) hreset' hclosed',
      State.selectPort_closed hreset' hclosed, State.header_withoutReply, State.modPort_modPort]
    rfl
  rw [hopened, htaken, hrise, hselect]

theorem trunkEvent_reset {s : State} (h : s.resetAsserted = true) (act : State → State) : s.trunkEvent act = s := if_pos h

/-- Settles O5: RESET, the ignored transaction and the open one are the first things a port looks at. -/
theorem transactionsAndReset : Obligations.TransactionsAndReset := by
  intro s c p b r ph
  refine ⟨fun hreset hp hbytes => ?_, fun hreset hclosed => ?_, fun hdead => ?_, fun hreset hp hassert hrelease => ?_,
    fun hreset hp hbytes hignored => ?_, fun hreset hp hbytes hopened => ?_⟩
  · obtain ⟨n, act, hexec⟩ := exec_of_hostBytes hp hbytes
    rw [hexec, State.takeCommand_reset hreset p n act]
  · refine congrArg Host.Outcome.next ((if_pos hclosed).trans (State.modPort_congr ?_))
    rw [hreset]
    rfl
  · have hbyte : (if s.resetAsserted then s else s.byteIn p b) = s ∧ (if s.resetAsserted then s else s.byteOut p) = s := by
      obtain h | h | h := hdead
      · exact ⟨if_pos h, if_pos h⟩
      · rw [State.byteIn, State.byteOut, h, ite_self]
        exact ⟨rfl, rfl⟩
      · rw [State.byteIn, State.byteOut, h, ite_self]
        exact ⟨rfl, rfl⟩
    exact ⟨congrArg Host.Outcome.next hbyte.1, congrArg Host.Outcome.next hbyte.2⟩
  · cases c
    case deviceReset => exact absurd rfl hassert
    case resetRelease => exact absurd rfl hrelease
    all_goals first
      | exact congrArg Host.Outcome.next (trunkEvent_reset hreset _)
      | contradiction
  · obtain ⟨n, act, hexec⟩ := exec_of_hostBytes hp hbytes
    rw [hexec, State.takeCommand_ignored hreset hignored]
  · obtain ⟨n, act, hexec⟩ := exec_of_hostBytes hp hbytes
    rw [hexec, hexec, State.takeCommand_opened hreset hopened]

end Sys2Proof.Machine
end

section
/-! SUPPORT. The bytes of a transaction (R165, R166, R177): what each command replies, and a command taken whole as the
same command taken byte by byte. -/

namespace Sys2Proof.Machine

/-! ### The replies -/

/-- A reply of the length of section 11.2, which carries something only with OK, QUEUED, SHORT or HELD (R177). -/
def Taken.Replies (r : Taken) (code : Byte) : Prop :=
  r.reply.length = replyBytes code ∧
    (r.result = .ok ∨ r.result = .queued ∨ r.result = .short ∨ r.result = .held ∨ r.reply = zeros (replyBytes code))

section
variable {r : Taken} {code : Byte}

theorem Taken.Replies.of_empty (h : r.reply = []) (hcode : replyBytes code = 0) : r.Replies code := by
  unfold Taken.Replies
  rw [h, hcode]
  exact ⟨rfl, .inr (.inr (.inr (.inr rfl)))⟩

theorem Taken.Replies.of_ok (h : r.result = .ok) (hlength : r.reply.length = replyBytes code) : r.Replies code :=
  ⟨hlength, .inl h⟩

theorem Taken.Replies.of_zeros (h : r.reply = zeros (replyBytes code)) : r.Replies code :=
  ⟨by rw [h, zeros, List.length_replicate], .inr (.inr (.inr (.inr h)))⟩

theorem State.ifHolder_reply {s : State} {p : Port} {act : Taken} (h : act.reply = []) : (s.ifHolder p act).reply = [] := by
  unfold State.ifHolder
  split
  · exact h
  · rfl

end

theorem length_count16 (n : Nat) : (count16 n).length = 2 := rfl

theorem length_lastRefusalField (x : Option LastRefusal) : (lastRefusalField x).length = 3 := by
  cases x <;> rfl

section
variable (s : State) (p : Port)

theorem State.setMarks_reply (high low : Nat) : (s.setMarks p high low).reply = [] := by
  unfold State.setMarks
  split <;> rfl

theorem State.openFrame_reply (length : Nat) : (s.openFrame p length).reply = [] := by
  rw [State.openFrame_eq]
  split_ifs <;> rfl

theorem State.commitTrunk_reply (address : Word) (cls tag options : Byte) :
    (s.commitTrunk p address cls tag options).reply = [] := by
  cases hslot : (s.port p).slot with
  | none => rw [State.commitTrunk_closed hslot]; rfl
  | some f => rw [State.commitTrunk_open hslot]; split_ifs <;> rfl

theorem State.commitLocal_reply (targets cls tag options : Byte) :
    (s.commitLocal p targets cls tag options).reply = [] := by
  cases hslot : (s.port p).slot with
  | none => rw [State.commitLocal_closed hslot]; rfl
  | some f => rw [State.commitLocal_open hslot]; split_ifs <;> rfl

theorem State.discardFrame_reply : (s.discardFrame p).reply = [] := by
  unfold State.discardFrame
  split <;> rfl

theorem State.cancel_reply (tag : Byte) : (s.cancel p tag).reply = [] := by
  unfold State.cancel
  split
  · rfl
  · split <;> rfl

theorem State.peekRecord_replies : (s.peekRecord p).Replies 0x20#8 := by
  unfold State.peekRecord
  split
  · exact .of_zeros rfl
  · exact .of_ok rfl rfl

theorem State.readFrame_reply (offset : Nat) : (s.readFrame p offset).reply = [] := by
  unfold State.readFrame
  split <;> rfl

theorem State.releaseRecord_reply : (s.releaseRecord p).reply = [] := by
  unfold State.releaseRecord
  split <;> rfl

theorem State.takeCompletion_replies : (s.takeCompletion p).Replies 0x23#8 := by
  unfold State.takeCompletion
  split
  · exact .of_zeros rfl
  · next r _ _ =>
    refine .of_ok rfl ?_
    unfold completionReply
    dsimp only
    split <;> rfl

theorem State.acquire_replies (wait : Bool) : (s.acquire p wait).Replies 0x30#8 := by
  cases hholder : s.lease.holder with
  | none => rw [State.acquire_free hholder]; exact .of_ok rfl rfl
  | some h =>
    rw [State.acquire_held hholder]
    split_ifs
    · exact .of_ok rfl rfl
    · exact ⟨rfl, .inr (.inr (.inr (.inl rfl)))⟩
    · exact ⟨rfl, .inr (.inl rfl)⟩
    · exact ⟨rfl, .inr (.inl rfl)⟩

theorem State.withdraw_reply : (s.withdraw p).reply = [] := by
  unfold State.withdraw
  split <;> rfl

theorem State.setQuota_reply (port floor ceiling : Nat) : (s.setQuota port floor ceiling).reply = [] := by
  unfold State.setQuota
  split
  · rfl
  · split_ifs <;> rfl

theorem State.setParameter_reply (n v : Nat) : (s.setParameter n v).reply = [] := by
  unfold State.setParameter
  split
  · rfl
  · split_ifs <;> rfl

theorem State.readParameter_replies (n : Nat) : (s.readParameter n).Replies 0x42#8 := by
  unfold State.readParameter
  split
  · exact .of_ok rfl rfl
  · exact .of_zeros rfl

theorem State.tableWrite_reply (i : Nat) (address mask : Word) (hosts : HostSet) (stop : Bool) :
    (s.tableWrite i address mask hosts stop).reply = [] := by
  unfold State.tableWrite
  split <;> rfl

theorem State.tableClear_reply (i : Nat) : (s.tableClear i).reply = [] := by
  unfold State.tableClear
  split <;> rfl

theorem State.tableRead_replies (shadow : Bool) (i : Nat) : (s.tableRead shadow i).Replies 0x45#8 := by
  unfold State.tableRead
  split
  · split
    · exact .of_ok rfl rfl
    · exact .of_zeros rfl
  · split
    · exact .of_ok rfl rfl
    · exact .of_zeros rfl

theorem State.readStatus_replies : (s.readStatus p).Replies 0x01#8 := by
  refine .of_ok rfl ?_
  show (s.statusReply p).length = 20
  simp [State.statusReply, length_count16, length_lastRefusalField]

theorem State.readLink_replies : s.readLink.Replies 0x06#8 := by
  refine .of_ok rfl ?_
  show s.linkReply.length = 9
  unfold State.linkReply
  cases s.link.peer <;> rfl

end

/-- Every command replies as section 11.2 says (R177). -/
theorem hostAct_replies {c : Instr} {p : Port} {code : Byte} (hp : c.port? = some p) (hcode : commandByte c = some code)
    (s : State) : (hostAct p code (argumentBytes c) s).Replies code := by
  cases c <;> cases hp <;> cases hcode
  case nop => exact .of_empty rfl rfl
  case readStatus => exact s.readStatus_replies p
  case readEvents => exact .of_ok rfl rfl
  case ackEvents w => exact .of_empty rfl rfl
  case setEventMask w => exact .of_empty rfl rfl
  case setMarks high low => exact .of_empty (s.setMarks_reply p _ _) rfl
  case readLink => exact s.readLink_replies
  case portReset => exact .of_empty rfl rfl
  case openFrame w => exact .of_empty (s.openFrame_reply p _) rfl
  case appendData => exact .of_empty rfl rfl
  case commitTrunk w cls tag options => exact .of_empty (s.commitTrunk_reply p _ cls tag options) rfl
  case commitLocal targets cls tag options => exact .of_empty (s.commitLocal_reply p targets cls tag options) rfl
  case discardFrame => exact .of_empty (s.discardFrame_reply p) rfl
  case cancel tag => exact .of_empty (s.cancel_reply p tag) rfl
  case peekRecord => exact s.peekRecord_replies p
  case readFrame w => exact .of_empty (s.readFrame_reply p _) rfl
  case releaseRecord => exact .of_empty (s.releaseRecord_reply p) rfl
  case takeCompletion => exact s.takeCompletion_replies p
  case leaseAcquire options => exact s.acquire_replies p _
  case leaseRenew => exact .of_empty (State.ifHolder_reply rfl) rfl
  case leaseRelease => exact .of_empty (State.ifHolder_reply rfl) rfl
  case leaseWithdraw => exact .of_empty (s.withdraw_reply p) rfl
  case setQuota port floor w => exact .of_empty (State.ifHolder_reply (s.setQuota_reply _ _ _)) rfl
  case setParameter number w => exact .of_empty (State.ifHolder_reply (s.setParameter_reply _ _)) rfl
  case readParameter number => exact s.readParameter_replies _
  case tableWrite index address mask hosts flags =>
    exact .of_empty (State.ifHolder_reply (s.tableWrite_reply _ _ _ _ _)) rfl
  case tableClear index => exact .of_empty (State.ifHolder_reply (s.tableClear_reply _)) rfl
  case tableRead selector index => exact s.tableRead_replies _ _
  case tableCommit => exact .of_empty (State.ifHolder_reply rfl) rfl
  case tableRevert => exact .of_empty (State.ifHolder_reply rfl) rfl
  case trunkOn => exact .of_empty (State.ifHolder_reply rfl) rfl
  case trunkOff => exact .of_empty (State.ifHolder_reply rfl) rfl

/-! ### Bytes that complete -/

/-- Bytes that complete one after the other are out as they are together. -/
theorem PortState.clocked_clocked (ps : PortState) (m n : Nat) : (ps.clocked m).clocked n = ps.clocked (m + n) := by
  have hout : ps.reply.take m ++ zeros (m - ps.reply.length) ++ (ps.reply.drop m).take n ++
        zeros (n - (ps.reply.length - m)) = ps.reply.take (m + n) ++ zeros (m + n - ps.reply.length) := by
    obtain hle | hlt := Nat.lt_or_ge ps.reply.length m |>.symm
    · have hnone : zeros (m - ps.reply.length) = [] := by rw [Nat.sub_eq_zero_of_le hle]; rfl
      rw [hnone, List.append_nil, ← List.take_add, Nat.sub_sub_right n hle, Nat.add_comm n m]
    · rw [List.take_of_length_le hlt.le, List.drop_eq_nil_of_le hlt.le, List.take_nil,
        List.take_of_length_le (by omega), List.append_nil, Nat.sub_eq_zero_of_le hlt.le, Nat.sub_zero,
        List.append_assoc, zeros, zeros, zeros, List.replicate_append_replicate, Nat.sub_add_comm hlt.le]
  unfold PortState.clocked
  dsimp only
  simp only [List.append_assoc] at hout
  rw [List.drop_drop, List.length_drop]
  simp only [List.append_assoc, hout]

/-- What a port answers does not depend on the transaction that its command finds, but for the bytes that are still to
come. -/
theorem State.answeredBy_congr {s u : State} {p : Port} {act : State → Taken}
    (hact : ∀ v header, act (State.modPort v p (·.fall header)) = (act v).modPort p (·.fall header))
    (hsame : u.modPort p (·.fall []) = s.modPort p (·.fall [])) {m n : Nat}
    (hout : ((u.begun p).clocked (m + 1 - (u.port p).txn.completed)).out =
      ((s.begun p).clocked (n + 1 - (s.port p).txn.completed)).out)
    (hreply : ((u.begun p).clocked (m + 1 - (u.port p).txn.completed)).reply =
      ((s.begun p).clocked (n + 1 - (s.port p).txn.completed)).reply) :
    u.answeredBy p m (act u) = s.answeredBy p n (act s) := by
  have hidden (v : State) (k : Nat) : v.answeredBy p k (act v) = v.answeredBy p k (act (v.modPort p (·.fall []))) := by
    rw [hact v]
    exact (State.answered_fall v p k _ _ _ _ []).symm
  rw [hidden u, hidden s, hsame]
  unfold State.answeredBy State.answered
  dsimp only
  rw [hout, hreply]

/-! ### The bytes of a command -/

theorem commandArgs_of_commandByte {c : Instr} {code : Byte} (hcode : commandByte c = some code) :
    commandArgs code = some (argumentBytes c).length := by
  cases c
  all_goals first
    | cases hcode; done
    | (cases hcode; rfl)

/-- The bytes of a host's row are a command and its arguments, or a code that names no command (R166, R168). -/
theorem hostBytes_cases {c : Instr} {p : Port} {bytes : List Byte} (hp : c.port? = some p)
    (h : hostBytes c = some bytes) :
    (∃ code, commandByte c = some code ∧ bytes = code :: argumentBytes c) ∨
      ∃ code, c = .illegal p code ∧ bytes = [code] ∧ commandArgs code = none := by
  cases c
  case illegal q code =>
    cases hp
    by_cases hillegal : commandArgs code = none
    · have hbytes : hostBytes (.illegal p code) = some [code] := if_pos hillegal
      exact .inr ⟨code, rfl, Option.some.inj (h.symm.trans hbytes), hillegal⟩
    · have hnone : hostBytes (.illegal p code) = none := if_neg hillegal
      rw [hnone] at h
      contradiction
  all_goals first
    | exact .inl ⟨_, rfl, (Option.some.inj h).symm⟩
    | exact absurd (show (none : Option (List Byte)) = some bytes from h) nofun

/-- What the row of a host's command does: it takes the command, whose last byte completes it and whose other bytes are
clocked in. -/
structure TakesBytes (c : Instr) (p : Port) (bytes : List Byte) (act : State → Taken) : Prop where
  blind : ∀ v header, act (State.modPort v p (·.fall header)) = (act v).modPort p (·.fall header)
  taken : ∀ s, exec c s = .next (s.takeCommand p (bytes.length - 1) act)
  last : ∀ (s : State) (got : List Byte) (b : Byte), bytes = got ++ [b] → s.commandByteIn p got b = s.takeBytes p 1 act
  before : ∀ (s : State) (got : List Byte) (b : Byte) (rest : List Byte), bytes = got ++ b :: rest → rest ≠ [] →
    s.commandByteIn p got b = s.modPort p fun ps => { ps.shiftOut 1 with txn := .selected (got ++ [b]) }

theorem exists_takesBytes {c : Instr} {p : Port} {bytes : List Byte} (hp : c.port? = some p)
    (h : hostBytes c = some bytes) : ∃ act, TakesBytes c p bytes act := by
  obtain ⟨code, hcode, rfl⟩ | ⟨code, rfl, rfl, hillegal⟩ := hostBytes_cases hp h
  · have hargs := commandArgs_of_commandByte hcode
    refine ⟨_, fun v header => hostAct_fall hp hcode v header, exec_eq_takeCommand hp hcode, fun s got b hbytes => ?_,
      fun s got b rest hbytes hrest => ?_⟩
    · unfold State.commandByteIn
      rw [← hbytes]
      dsimp only
      rw [hargs]
      exact if_pos rfl
    · have hmore : (argumentBytes c).length = got.length + rest.length := by
        have := congrArg List.length hbytes
        simp at this
        omega
      have hpos : 0 < rest.length := List.length_pos_iff.mpr hrest
      unfold State.commandByteIn
      cases got with
      | nil =>
        obtain ⟨rfl, -⟩ := List.cons.inj hbytes
        dsimp only [List.nil_append]
        rw [hargs]
        exact if_neg (by simp at hmore ⊢; omega)
      | cons x got =>
        obtain ⟨rfl, -⟩ := List.cons.inj hbytes
        dsimp only [List.cons_append]
        rw [hargs]
        exact if_neg (by simp at hmore ⊢; omega)
  · refine ⟨State.illegal, fun _ _ => rfl, fun s => congrArg Host.Outcome.next (if_pos hillegal), fun s got b hbytes => ?_,
      fun s got b rest hbytes hrest => ?_⟩
    · unfold State.commandByteIn
      rw [← hbytes]
      dsimp only
      rw [hillegal]
    · have := congrArg List.length hbytes
      have hpos : 0 < rest.length := List.length_pos_iff.mpr hrest
      simp at this
      omega

section
variable {c : Instr} {p : Port} {bytes : List Byte} {act : State → Taken} {s : State}

theorem TakesBytes.ready (h : TakesBytes c p bytes act) (hready : s.Ready p) :
    exec c s = .next (s.answeredBy p (bytes.length - 1) (act s)) := by
  rw [h.taken, State.takeCommand_answeredBy hready _ fun header => h.blind s header]

/-- The last byte of a command does what the command does (R165). -/
theorem TakesBytes.exec_last (h : TakesBytes c p bytes act) {got : List Byte} {b : Byte} (hbytes : bytes = got ++ [b])
    (hreset : s.resetAsserted = false) (hselected : (s.port p).txn = .selected got) :
    exec (.appendDataByte p b) s = exec c s := by
  have hbyte : exec (.appendDataByte p b) s = .next (s.commandByteIn p got b) := by
    refine congrArg Host.Outcome.next ?_
    rw [hreset, State.byteIn, hselected]
    rfl
  have hone : bytes.length - 1 + 1 - got.length = 1 := by
    rw [hbytes]
    simp
  rw [hbyte, h.last s got b hbytes, h.taken, State.takeCommand, hreset, hselected]
  dsimp only
  rw [hone]
  rfl

/-- A byte before the last is clocked in (R165, R166). -/
theorem TakesBytes.exec_before (h : TakesBytes c p bytes act) {got rest : List Byte} {b : Byte}
    (hbytes : bytes = got ++ b :: rest) (hrest : rest ≠ []) (hreset : s.resetAsserted = false)
    (hselected : (s.port p).txn = .selected got) :
    exec (.appendDataByte p b) s =
      .next (s.modPort p fun ps => { ps.clocked 1 with txn := .selected (got ++ [b]) }) := by
  refine congrArg Host.Outcome.next ?_
  rw [hreset, State.byteIn, hselected]
  dsimp only
  rw [h.before s got b rest hbytes hrest]
  simp only [PortState.shiftOut_eq]
  rfl

/-- The command is the same after one of its bytes has completed before the others. -/
theorem TakesBytes.exec_clocked (h : TakesBytes c p bytes act) {got rest : List Byte} {b : Byte}
    (hbytes : bytes = got ++ b :: rest) (hrest : rest ≠ []) (hreset : s.resetAsserted = false)
    (hselected : (s.port p).txn = .selected got) :
    exec c (s.modPort p fun ps => { ps.clocked 1 with txn := .selected (got ++ [b]) }) = exec c s := by
  have hport : ((s.modPort p fun ps => { ps.clocked 1 with txn := .selected (got ++ [b]) }).port p) =
      { (s.port p).clocked 1 with txn := .selected (got ++ [b]) } := State.port_modPort_same ..
  have hbegun : (s.modPort p fun ps => { ps.clocked 1 with txn := .selected (got ++ [b]) }).begun p =
      { (s.port p).clocked 1 with txn := .selected (got ++ [b]) } := by
    rw [State.begun, hport]
    exact if_neg nofun
  have hbegun' : s.begun p = s.port p := if_neg (by rw [hselected]; nofun)
  have hpos : 0 < rest.length := List.length_pos_iff.mpr hrest
  have hcount : 1 + (bytes.length - 1 + 1 - (got ++ [b]).length) = bytes.length - 1 + 1 - got.length := by
    rw [hbytes]
    simp
    omega
  have hclocked : ((s.port p).clocked 1).clocked (bytes.length - 1 + 1 - (got ++ [b]).length) =
      (s.port p).clocked (bytes.length - 1 + 1 - got.length) := by
    rw [PortState.clocked_clocked, hcount]
  have hready : (s.modPort p fun ps => { ps.clocked 1 with txn := .selected (got ++ [b]) }).Ready p :=
    ⟨hreset, by rw [hport]; rfl⟩
  rw [h.ready hready, h.ready ⟨hreset, by rw [hselected]; rfl⟩]
  refine congrArg Host.Outcome.next (State.answeredBy_congr h.blind ?_ ?_ ?_)
  · rw [State.modPort_modPort]
    rfl
  · rw [hbegun, hport, hbegun', hselected]
    have hout := congrArg PortState.out hclocked
    exact hout
  · rw [hbegun, hport, hbegun', hselected]
    have hreply := congrArg PortState.reply hclocked
    exact hreply

/-- The command is the same after the fall of chip select (R165, R166). -/
theorem TakesBytes.exec_fall (h : TakesBytes c p bytes act) (hreset : s.resetAsserted = false)
    (hclosed : (s.port p).txn = .closed) :
    exec c (s.modPort p (·.fall (s.header p))) = exec c s := by
  have hport : (s.modPort p (·.fall (s.header p))).port p = (s.port p).fall (s.header p) := State.port_modPort_same ..
  have hbegun : (s.modPort p (·.fall (s.header p))).begun p = (s.port p).fall (s.header p) := by
    rw [State.begun, hport]
    exact if_neg nofun
  have hbegun' : s.begun p = { s.port p with out := [], reply := s.header p } := if_pos hclosed
  have hready : (s.modPort p (·.fall (s.header p))).Ready p := ⟨hreset, by rw [hport]; rfl⟩
  rw [h.ready hready, h.ready ⟨hreset, by rw [hclosed]; rfl⟩]
  refine congrArg Host.Outcome.next (State.answeredBy_congr h.blind ?_ ?_ ?_)
  · rw [State.modPort_modPort]
    rfl
  all_goals
    rw [hbegun, hport, hbegun', hclosed]
    rfl

/-- The remaining bytes of a command, one after the other, do what the command does. -/
theorem TakesBytes.exec_bytes (h : TakesBytes c p bytes act) {rest : List Byte} (hrest : rest ≠ []) (s : State)
    (got : List Byte) (hbytes : bytes = got ++ rest) (hreset : s.resetAsserted = false)
    (hselected : (s.port p).txn = .selected got) :
    exec c s = .next ((rest.map (Instr.appendDataByte p)).foldl State.after s) := by
  induction rest generalizing s got with
  | nil => exact absurd rfl hrest
  | cons b rest ih =>
    cases rest with
    | nil =>
      have hlast := h.exec_last hbytes hreset hselected
      show exec c s = .next (s.after (.appendDataByte p b))
      rw [State.after, hlast, h.taken]
    | cons b' rest =>
      have hafter : s.after (.appendDataByte p b) =
          s.modPort p fun ps => { ps.clocked 1 with txn := .selected (got ++ [b]) } := by
        rw [State.after, h.exec_before hbytes (List.cons_ne_nil b' rest) hreset hselected]
      rw [List.map_cons, List.foldl_cons, hafter,
        ← h.exec_clocked hbytes (List.cons_ne_nil b' rest) hreset hselected]
      refine ih (List.cons_ne_nil b' rest) _ (got ++ [b]) ?_ hreset ?_
      · rw [hbytes, List.append_assoc]
        rfl
      · rw [State.port_modPort_same]

end

/-- A command answers with the status byte and the previous result, 0x00 up to its last argument byte, and its reply
(R166, R177). -/
theorem State.answer_answeredBy {s : State} {p : Port} (hclosed : (s.port p).txn = .closed) (n : Nat) (r : Taken) :
    ((s.answeredBy p n r).port p).out.length = n + 1 ∧
      ((s.answeredBy p n r).port p).answer =
        s.statusByte p :: (s.port p).prevResult.code :: zeros (n - 1) ++ r.reply := by
  have hbegun : s.begun p = { s.port p with out := [], reply := [s.statusByte p, (s.port p).prevResult.code] } :=
    if_pos hclosed
  unfold State.answeredBy State.answered PortState.answer
  rw [State.port_modPort_same, hbegun, hclosed]
  cases n with
  | zero => exact ⟨rfl, rfl⟩
  | succ n =>
    refine ⟨?_, ?_⟩
    · simp [PortState.clocked, zeros, Txn.completed]
    · simp [PortState.clocked, zeros, Txn.completed]

/-- Settles O6: the reply is the command's, and its bytes may come one by one. -/
theorem bytesOutOfThePort : Obligations.BytesOutOfThePort := by
  intro s c p code n got b rest r hreset
  refine ⟨fun hp hcode hargs hclosed => ?_, fun hp hbytes hselected => ?_, fun hp hbytes hrest hselected => ?_,
    fun hp hbytes hclosed => ?_, fun hopened => ?_⟩
  · have hn : n = (argumentBytes c).length :=
      Option.some.inj (hargs.symm.trans (commandArgs_of_commandByte hcode))
    obtain ⟨hlength, hcarries⟩ := hostAct_replies hp hcode s
    obtain ⟨hout, hanswer⟩ := State.answer_answeredBy hclosed n (hostAct p code (argumentBytes c) s)
    refine ⟨_, hn ▸ exec_ready hp hcode ⟨hreset, by rw [hclosed]; rfl⟩, _, _, ?_, hout, hanswer, hlength, hcarries⟩
    unfold State.resultOn State.answeredBy State.answered
    rw [State.port_modPort_same]
  · obtain ⟨act, h⟩ := exists_takesBytes hp hbytes
    exact h.exec_last rfl hreset hselected
  · obtain ⟨act, h⟩ := exists_takesBytes hp hbytes
    exact h.exec_before rfl hrest hreset hselected
  · obtain ⟨act, h⟩ := exists_takesBytes hp hbytes
    have hrest : rest ≠ [] := by
      obtain ⟨-, -, rfl⟩ | ⟨-, -, rfl, -⟩ := hostBytes_cases hp hbytes <;> nofun
    have hfall : s.after (.transactionEnd p .fall) = s.modPort p (·.fall (s.header p)) :=
      State.selectPort_closed hreset hclosed
    rw [hfall, ← h.exec_fall hreset hclosed]
    exact h.exec_bytes hrest _ [] rfl hreset (by rw [State.port_modPort_same]; rfl)
  · have hbyte : s.byteIn p b = s.modPort p (·.clocked 1) ∧ s.byteOut p = s.modPort p (·.clocked 1) := by
      rw [State.byteIn, State.byteOut, hopened]
      exact ⟨State.modPort_congr (PortState.shiftOut_eq _ 1), State.modPort_congr (PortState.shiftOut_eq _ 1)⟩
    constructor
    · refine congrArg Host.Outcome.next ?_
      rw [hreset]
      exact hbyte.1
    · refine congrArg Host.Outcome.next ?_
      rw [hreset]
      exact hbyte.2

end Sys2Proof.Machine
end

section
/-! SUPPORT. Frames that end (R4, R15, R29, R53, R80, R96, R113): one description of what the end of a list of frames, with
the records of a list of frames, leaves of the part, and how two such changes follow each other. -/

namespace Sys2Proof.Machine

/-! ### Lists of owned frames -/

/-- A list of frames with the ports that pay for them. -/
abbrev Owned := List (Port × Frame)

/-- The frames of q in such a list. -/
def Owned.of (l : Owned) (q : Port) : List Frame := (l.filter (·.1 == q)).map (·.2)

/-- All its frames. -/
def Owned.frames (l : Owned) : List Frame := l.map (·.2)

@[simp] theorem Owned.of_nil (q : Port) : Owned.of [] q = [] := rfl

@[simp] theorem Owned.of_append (l l' : Owned) (q : Port) : Owned.of (l ++ l') q = Owned.of l q ++ Owned.of l' q := by
  simp [Owned.of]

@[simp] theorem Owned.frames_nil : Owned.frames [] = [] := rfl

@[simp] theorem Owned.frames_append (l l' : Owned) : Owned.frames (l ++ l') = l.frames ++ l'.frames := by
  simp [Owned.frames]

theorem Owned.of_singleton (p q : Port) (f : Frame) : Owned.of [(p, f)] q = if p = q then [f] else [] := by
  unfold Owned.of
  by_cases h : p = q <;> simp [h]

/-- The frames of the four ports are all the frames. -/
theorem Owned.perm_frames (l : Owned) : (Port.all.flatMap l.of).Perm l.frames := by
  induction l with
  | nil => rfl
  | cons x l ih =>
    obtain ⟨p, f⟩ := x
    have hof (q : Port) : Owned.of ((p, f) :: l) q = Owned.of [(p, f)] q ++ Owned.of l q := Owned.of_append [(p, f)] l q
    have hhead : Port.all.flatMap (Owned.of [(p, f)]) = [f] := by cases p <;> rfl
    have hsplit : (Port.all.flatMap fun q => Owned.of [(p, f)] q ++ Owned.of l q).Perm
        (Port.all.flatMap (Owned.of [(p, f)]) ++ Port.all.flatMap (Owned.of l)) :=
      (List.flatMap_append_perm Port.all _ _).symm
    have hall : Port.all.flatMap (Owned.of ((p, f) :: l)) = Port.all.flatMap fun q => Owned.of [(p, f)] q ++ Owned.of l q :=
      congrArg (Port.all.flatMap ·) (funext hof)
    rw [hall]
    refine hsplit.trans ?_
    rw [hhead]
    exact ih.cons f

theorem cellsOf_append (l l' : List Frame) : cellsOf (l ++ l') = cellsOf l + cellsOf l' := by
  simp [cellsOf]

@[simp] theorem cellsOf_nil : cellsOf [] = 0 := rfl

theorem cellsOf_perm {l l' : List Frame} (h : l.Perm l') : cellsOf l = cellsOf l' := (h.map _).sum_eq

@[simp] theorem cellList_nil : cellList [] = [] := rfl

theorem cellList_append (l l' : List Frame) : cellList (l ++ l') = cellList l ++ cellList l' := List.flatMap_append ..

theorem cellList_perm {l l' : List Frame} (h : l.Perm l') : (cellList l).Perm (cellList l') := h.flatMap_right _

/-! ### Completion lists and the halting of the peer -/

@[simp] theorem CplList.convert_nil (c : CplList) (o : CplOutcome) : c.convert o [] = c := by
  simp [CplList.convert, recordsFor]

theorem CplList.convert_append (c : CplList) (o : CplOutcome) (l l' : List Frame) :
    c.convert o (l ++ l') = (c.convert o l).convert o l' := by
  simp [CplList.convert, recordsFor, Nat.sub_sub]

@[simp] theorem Engine.letGo_false (e : Engine) : e.letGo false = e := by simp [Engine.letGo]

theorem Engine.letGo_window (e : Engine) (b : Bool) (w : List WindowEntry) :
    { e with window := w }.letGo b = { e.letGo b with window := w } := by
  unfold Engine.letGo
  dsimp only
  split <;> rfl

theorem Engine.letGo_letGo (e : Engine) {b c : Bool} : (e.letGo b).letGo c = e.letGo (b || c) := by
  cases b
  · simp
  · unfold Engine.letGo
    cases h : e.haltingPeer <;> simp [h]

theorem Engine.window_letGo (e : Engine) (b : Bool) : (e.letGo b).window = e.window := by
  unfold Engine.letGo
  split <;> rfl

theorem Engine.quiet_letGo (e : Engine) (b : Bool) : (e.letGo b).quiet = e.quiet := by
  unfold Engine.letGo
  split <;> rfl

/-! ### Ended frames -/

/-- From s to t the frames of a list have ended and their cells are free, those of another have been reported with an
outcome where they are owed a record, the reception has been cut off or not, and the queues have been edited; the window,
the flags and timers of the engine, the framer and the free value of the part may have changed besides. -/
structure Ended (o : CplOutcome) (gone told : Owned) (cut : Bool) (edit : Port → List Frame → List Frame) (s t : State) :
    Prop where
  port : ∀ q, t.port q =
    { s.port q with
      holdings := (s.port q).holdings - cellsOf (gone.of q), queue := edit q (s.port q).queue
      cpl := (s.port q).cpl.convert o (told.of q), events := (t.port q).events }
  events : s.LevelLaw → ∀ q,
    (t.port q).events = (s.port q).events.raised (Event.txDone.bitIf ((told.of q).any Frame.notifies))
  level : s.LevelLaw → t.LevelLaw
  free : t.pool.free = s.pool.free + cellsOf gone.frames + (if cut then s.pool.inbound else 0)
  inbound : t.pool.inbound = if cut then 0 else s.pool.inbound
  cells : t.pool.freeCells.Perm
    (s.pool.freeCells ++ cellList gone.frames ++ (if cut then s.pool.inboundCells else []))
  inboundCells : t.pool.inboundCells = if cut then [] else s.pool.inboundCells
  engine : t.engine.quiet = { s.engine.quiet with window := t.engine.window }
  rest : t =
    { s with pool := t.pool, ports := t.ports, framer := t.framer, engine := t.engine, freeTick := t.freeTick }

/-- From s to t cells became free, or none did, and the halting of the peer follows shared free (R113). -/
structure Resumed (freed : Bool) (s t : State) : Prop where
  shared : s.sharedFree ≤ t.sharedFree
  still : freed = false → t.sharedFree = s.sharedFree
  params : t.params = s.params
  engine : t.engine =
    { s.engine.letGo (freed && decide (s.params.resume ≤ t.sharedFree)) with window := t.engine.window }

section
variable {o : CplOutcome} {s t u : State}

theorem Resumed.of_eq (hshared : t.sharedFree = s.sharedFree) (hparams : t.params = s.params)
    (hengine : t.engine = { s.engine with window := t.engine.window }) : Resumed false s t :=
  ⟨hshared.ge, fun _ => hshared, hparams, by simpa using hengine⟩

theorem Resumed.trans {b c : Bool} (h : Resumed b s t) (h' : Resumed c t u) : Resumed (b || c) s u where
  shared := h.shared.trans h'.shared
  still hstill := by
    obtain ⟨hb, hc⟩ := Bool.or_eq_false_iff.mp hstill
    rw [h'.still hc, h.still hb]
  params := h'.params.trans h.params
  engine := by
    have hshared := h'.shared
    have hstill := h'.still
    rw [h'.engine, h.engine, Engine.letGo_window, Engine.letGo_letGo, h.params]
    refine congrArg (fun b => { s.engine.letGo b with window := u.engine.window }) ?_
    cases c
    · rw [hstill rfl]
      simp
    · have hreached : s.params.resume ≤ t.sharedFree → s.params.resume ≤ u.sharedFree := fun h => h.trans hshared
      cases b <;> simp
      exact hreached

/-- Nothing has ended. -/
theorem Ended.of_eq (edit : Port → List Frame → List Frame)
    (hport : ∀ q, t.port q = { s.port q with queue := edit q (s.port q).queue }) (hpool : t.pool = s.pool)
    (hengine : t.engine.quiet = { s.engine.quiet with window := t.engine.window })
    (hrest : t =
      { s with pool := t.pool, ports := t.ports, framer := t.framer, engine := t.engine, freeTick := t.freeTick }) :
    Ended o [] [] false edit s t := by
  have hshared : t.sharedFree = s.sharedFree := State.sharedFree_congr (congrArg Pool.free hpool) fun q => by
    rw [hport q]
    rfl
  have hparams : t.params = s.params := by rw [hrest]
  refine ⟨fun q => ?_, fun _ q => ?_, fun h => ?_, ?_, ?_, ?_, ?_, hengine, hrest⟩
  · rw [hport q]
    simp
  · rw [hport q]
    simp
  · unfold State.LevelLaw
    rw [hshared, hpool, hparams]
    exact h
  all_goals
    rw [hpool]
    simp

/-- Nothing has ended, and the ports are as they were. -/
theorem Ended.of_ports (hports : t.ports = s.ports) (hpool : t.pool = s.pool)
    (hengine : t.engine.quiet = { s.engine.quiet with window := t.engine.window })
    (hrest : t =
      { s with pool := t.pool, ports := t.ports, framer := t.framer, engine := t.engine, freeTick := t.freeTick }) :
    Ended o [] [] false (fun _ => id) s t :=
  .of_eq _ (fun q => by rw [State.port, hports]; rfl) hpool hengine hrest

theorem Ended.refl (o : CplOutcome) (s : State) : Ended o [] [] false (fun _ => id) s s :=
  .of_ports rfl rfl rfl rfl

theorem Ended.trans {g g' d d' : Owned} {c c' : Bool} {e e' : Port → List Frame → List Frame}
    (h : Ended o g d c e s t) (h' : Ended o g' d' c' e' t u) :
    Ended o (g ++ g') (d ++ d') (c || c') (fun q => e' q ∘ e q) s u where
  port q := by
    rw [h'.port q, h.port q]
    simp [cellsOf_append, CplList.convert_append, Nat.sub_sub]
  events hs q := by
    rw [h'.events (h.level hs) q, h.events hs q, EventUnit.raised_raised, Owned.of_append, List.any_append]
    cases (Owned.of d q).any Frame.notifies <;> cases (Owned.of d' q).any Frame.notifies <;> simp
  level := h'.level ∘ h.level
  free := by
    rw [h'.free, h.free, h.inbound, Owned.frames_append, cellsOf_append]
    cases c <;> cases c' <;> simp <;> omega
  inbound := by
    rw [h'.inbound, h.inbound]
    cases c <;> cases c' <;> rfl
  cells := by
    have hst := h.cells
    have htu := h'.cells
    rw [h.inboundCells] at htu
    rw [Owned.frames_append, cellList_append]
    rw [List.perm_iff_count] at *
    intro a
    have hst := hst a
    have htu := htu a
    cases c <;> cases c' <;> simp [List.count_append] at hst htu ⊢ <;> omega
  inboundCells := by
    rw [h'.inboundCells, h.inboundCells]
    cases c <;> cases c' <;> rfl
  engine := by rw [h'.engine, h.engine]
  rest := by rw [h'.rest, h.rest]

/-- Each element of a list ends the frames of one list and reports those of another. -/
theorem Ended.foldl {α : Type} {f : State → α → State} {g d : α → Owned}
    (h : ∀ t x, Ended o (g x) (d x) false (fun _ => id) t (f t x)) (l : List α) (s : State) :
    Ended o (l.flatMap g) (l.flatMap d) false (fun _ => id) s (l.foldl f s) := by
  induction l generalizing s with
  | nil => exact .refl o s
  | cons x l ih => exact (h s x).trans (ih _)

theorem Resumed.foldl {α : Type} {f : State → α → State} {b : α → Bool} (h : ∀ t x, Resumed (b x) t (f t x)) (l : List α)
    (s : State) : Resumed (l.any b) s (l.foldl f s) := by
  induction l generalizing s with
  | nil => exact .of_eq rfl rfl rfl
  | cons x l ih => exact (h s x).trans (ih _)

/-! ### What ends a frame -/

theorem State.reservations_eq (s : State) :
    s.reservations = (s.port .p0).reservation + ((s.port .p1).reservation + ((s.port .p2).reservation +
      ((s.port .p3).reservation + 0))) := rfl

/-- Cells that become free raise no reservation by more than their number. -/
theorem State.sharedFree_le {k : Nat} (hfree : t.pool.free = s.pool.free + k)
    (hreserved : t.reservations ≤ s.reservations + k) : s.sharedFree ≤ t.sharedFree := by
  unfold State.sharedFree
  omega

theorem State.port_returnFrames (s : State) (p q : Port) (l : List Frame) :
    (s.returnFrames p l).port q =
      if q = p then { s.port q with holdings := (s.port q).holdings - cellsOf l } else s.port q :=
  s.port_modPort p q fun ps => { ps with holdings := ps.holdings - cellsOf l }

theorem State.sharedFree_le_returnFrames (s : State) (p : Port) (l : List Frame) :
    s.sharedFree ≤ (s.returnFrames p l).sharedFree := by
  refine State.sharedFree_le (k := cellsOf l) rfl ?_
  have hport (q : Port) : ((s.returnFrames p l).port q).reservation =
      if q = p then (s.port q).floor - ((s.port q).holdings - cellsOf l) else (s.port q).reservation := by
    rw [State.port_returnFrames]
    split <;> rfl
  rw [State.reservations_eq, State.reservations_eq]
  simp only [hport]
  cases p <;> simp [PortState.reservation] <;> omega

/-- Shared free that has not fallen does not fall below P14 (R15). -/
theorem State.fallsLow_of_le (hs : s.LevelLaw) (hlevel : u.pool.level = s.pool.level) (hparams : u.params = s.params)
    (hshared : s.sharedFree ≤ u.sharedFree) : u.fallsLow = false := by
  unfold State.LevelLaw at hs
  unfold State.fallsLow
  rw [hlevel, hparams]
  cases h : s.pool.level with
  | below => rfl
  | atOrAbove =>
    have : ¬s.sharedFree < s.params.poolLow := fun hlt => by
      have := hs.mpr hlt
      rw [h] at this
      contradiction
    simp
    omega

/-- Cells are counted as free and the pool is judged. -/
theorem Ended.of_settled (gone : Owned) (cut : Bool)
    (hport : ∀ q, u.port q = { s.port q with holdings := (s.port q).holdings - cellsOf (gone.of q) })
    (hpool : u.pool =
      { s.pool with
        free := s.pool.free + cellsOf gone.frames + (if cut then s.pool.inbound else 0)
        inbound := if cut then 0 else s.pool.inbound
        freeCells := s.pool.freeCells ++ cellList gone.frames ++ (if cut then s.pool.inboundCells else [])
        inboundCells := if cut then [] else s.pool.inboundCells })
    (hshared : s.sharedFree ≤ u.sharedFree)
    (hrest : u = { s with pool := u.pool, ports := u.ports, framer := u.framer }) :
    Ended o gone [] cut (fun _ => id) s u.settlePool where
  port q := by
    rw [State.port_settlePool_eq, hport q]
    simp
  events hs q := by
    rw [State.port_settlePool_eq, State.fallsLow_of_le hs (by rw [hpool]) (by rw [hrest]) hshared, hport q]
    simp
  level _ := u.settlePool_levelLaw
  free := by rw [State.settlePool_pool, hpool]
  inbound := by rw [State.settlePool_pool, hpool]
  cells := by rw [State.settlePool_pool, hpool]
  inboundCells := by rw [State.settlePool_pool, hpool]
  engine := by
    have hengine : u.engine = s.engine := by rw [hrest]
    rw [State.settlePool_engine_eq, Engine.quiet_letGo, Engine.window_letGo, hengine]
    rfl
  rest := by
    have hkept := u.settlePool_eq
    rw [State.settlePool_framer, State.settlePool_freeTick]
    generalize u.settlePool = v at hkept ⊢
    rw [hkept, hrest]

theorem Resumed.of_settled (hengine : u.engine = s.engine) (hparams : u.params = s.params)
    (hshared : s.sharedFree ≤ u.sharedFree) : Resumed true s u.settlePool where
  shared := by
    rw [State.sharedFree_settlePool]
    exact hshared
  still h := absurd h (by decide)
  params := by simpa using hparams
  engine := by
    rw [State.settlePool_engine_eq, State.sharedFree_settlePool, hengine, hparams]
    rfl

theorem State.freeFrame_ended (s : State) (p : Port) (f : Frame) :
    Ended o [(p, f)] [] false (fun _ => id) s (s.freeFrame p f) := by
  refine .of_settled _ _ (fun q => ?_) ?_ (s.sharedFree_le_returnFrames p [f]) rfl
  · rw [State.port_returnFrames, Owned.of_singleton]
    by_cases h : q = p
    · subst h
      rw [if_pos rfl, if_pos rfl]
    · rw [if_neg h, if_neg (Ne.symm h)]
      rfl
  · simp [State.returnFrames, Owned.frames, cellList]

theorem State.freeFrame_resumed (s : State) (p : Port) (f : Frame) : Resumed true s (s.freeFrame p f) :=
  .of_settled rfl rfl (s.sharedFree_le_returnFrames p [f])

theorem State.releaseInbound_ended (s : State) : Ended o [] [] true (fun _ => id) s s.releaseInbound := by
  have hshared : s.sharedFree ≤
      State.sharedFree
        { s with
          pool :=
            { s.pool with
              free := s.pool.free + s.pool.inbound, inbound := 0
              freeCells := s.pool.freeCells ++ s.pool.inboundCells, inboundCells := [] }
          framer := { s.framer with stored := [] } } :=
    State.sharedFree_le (k := s.pool.inbound) rfl (Nat.le_add_right _ _)
  have hlevel := (s.releaseInbound_quiet (off := true)).level
  unfold State.releaseInbound at hlevel ⊢
  split
  · next hnone =>
    rw [if_pos hnone] at hlevel
    exact ⟨fun q => by simp [State.port], fun _ q => by simp [State.port], hlevel, by simp, rfl, by simp, rfl, rfl, rfl⟩
  · refine .of_settled _ _ (fun q => ?_) ?_ hshared rfl
    · simp [State.port]
    · simp

/-- A frame that is owed a record gets it, and another does not (R29, R146). -/
theorem State.told_ended (s : State) (p : Port) (f : Frame) :
    Ended o [] [(p, f)] false (fun _ => id) s (if f.notifies then s.convertSlot p f o else s) := by
  have hquiet : Quiet true s (if f.notifies then s.convertSlot p f o else s) :=
    quiet_ite (s.convertSlot_quiet p f o) (.refl true s)
  have hport (q : Port) : (if f.notifies then s.convertSlot p f o else s).port q =
      { s.port q with
        cpl := (s.port q).cpl.convert o (Owned.of [(p, f)] q)
        events := (s.port q).events.raised (Event.txDone.bitIf ((Owned.of [(p, f)] q).any Frame.notifies)) } := by
    rw [Owned.of_singleton]
    cases hnotifies : f.notifies with
    | false =>
      rw [if_neg Bool.false_ne_true]
      by_cases hq : p = q <;> simp [hq, CplList.convert, recordsFor, hnotifies]
    | true =>
      rw [if_pos rfl, State.convertSlot, State.port_modPort]
      by_cases hq : q = p
      · subst hq
        simp [PortState.appendCompletion, PortState.raise_eq_raised, CplList.convert, recordsFor, hnotifies]
      · simp [hq, Ne.symm hq]
  have hpool : (if f.notifies then s.convertSlot p f o else s).pool = s.pool := by split <;> rfl
  have hengine : (if f.notifies then s.convertSlot p f o else s).engine = s.engine := by split <;> rfl
  refine ⟨fun q => ?_, fun _ q => ?_, hquiet.level, ?_, ?_, ?_, ?_, ?_, ?_⟩
  · rw [hport q]
    simp
  · rw [hport q]
  · rw [hpool]
    simp
  · rw [hpool]
    simp
  · rw [hpool]
    simp
  · rw [hpool]
    simp
  · rw [hengine]
    rfl
  · split <;> rfl

theorem State.convertSlot_resumed (s : State) (p : Port) (f : Frame) : Resumed false s (s.convertSlot p f o) := by
  refine .of_eq (State.sharedFree_congr rfl fun q => ?_) rfl rfl
  rw [State.convertSlot, State.port_modPort]
  split <;> rfl

theorem Resumed.ite {c : Prop} [Decidable c] {b : Bool} (ht : Resumed b s t) (hu : Resumed b s u) :
    Resumed b s (if c then t else u) := by
  split
  · exact ht
  · exact hu

theorem State.failFrame_ended (s : State) (p : Port) (f : Frame) :
    Ended o [(p, f)] [(p, f)] false (fun _ => id) s (s.failFrame p o f) :=
  (s.freeFrame_ended p f).trans ((s.freeFrame p f).told_ended p f)

theorem State.failFrame_resumed (s : State) (p : Port) (f : Frame) : Resumed true s (s.failFrame p o f) :=
  (s.freeFrame_resumed p f).trans ((State.convertSlot_resumed _ p f).ite (.of_eq rfl rfl rfl))

/-! ### Queues -/

/-- The waiting frames of a port, as its own (R29). -/
def State.waitingOf (s : State) (p : Port) : Owned := (s.port p).queue.map (p, ·)

theorem Owned.flatMap_singleton {α : Type} (l : List α) (f : α → Port × Frame) :
    (l.flatMap fun x => [f x] : Owned) = l.map f := by
  induction l with
  | nil => rfl
  | cons x l ih => rw [List.flatMap_cons, ih]; rfl

/-- The queue of port p is emptied. -/
def emptyOf (p : Port) : Port → List Frame → List Frame := fun q l => if q = p then [] else l

theorem State.failQueue_ended (s : State) (p : Port) :
    Ended o (s.waitingOf p) (s.waitingOf p) false (emptyOf p) s (s.failQueue o p) := by
  have hemptied : Ended o [] [] false (emptyOf p) s (s.modPort p fun ps => { ps with queue := [] }) := by
    refine .of_eq _ (fun q => ?_) rfl rfl rfl
    rw [State.port_modPort, emptyOf]
    split <;> rfl
  have hfailed := Ended.foldl (o := o) (fun t f => State.failFrame_ended t p f) (s.port p).queue
    (s.modPort p fun ps => { ps with queue := [] })
  rw [Owned.flatMap_singleton] at hfailed
  exact hemptied.trans hfailed

theorem State.failQueue_resumed (s : State) (p : Port) :
    Resumed (!(s.port p).queue.isEmpty) s (s.failQueue o p) := by
  have hemptied : Resumed false s (s.modPort p fun ps => { ps with queue := [] }) := by
    refine .of_eq (State.sharedFree_congr rfl fun q => ?_) rfl rfl
    rw [State.port_modPort]
    split <;> rfl
  have hfailed := Resumed.foldl (fun t f => State.failFrame_resumed (o := o) t p f) (s.port p).queue
    (s.modPort p fun ps => { ps with queue := [] })
  have hany : ((s.port p).queue.any fun _ => true) = !(s.port p).queue.isEmpty := by
    cases (s.port p).queue <;> rfl
  rw [hany] at hfailed
  exact hemptied.trans hfailed

/-- The waiting frames of all ports. -/
def State.waiting (s : State) : Owned := Port.all.flatMap s.waitingOf

theorem State.queue_failQueue (s : State) (p : Port) {q : Port} (h : q ≠ p) :
    ((s.failQueue o p).port q).queue = (s.port q).queue := by
  rw [(s.failQueue_ended p).port q]
  exact if_neg h

theorem State.failQueues_ended {l : List Port} (hl : l.Nodup) (s : State) :
    Ended o (l.flatMap s.waitingOf) (l.flatMap s.waitingOf) false (fun q x => if q ∈ l then [] else x) s
      (l.foldl (fun t p => t.failQueue o p) s) := by
  induction l generalizing s with
  | nil =>
    have hedit : (fun (q : Port) (x : List Frame) => if q ∈ ([] : List Port) then [] else x) = fun _ => id := by
      funext q x
      simp
    rw [hedit]
    exact .refl o s
  | cons p l ih =>
    obtain ⟨hp, hl⟩ := List.nodup_cons.mp hl
    have hwaiting : l.flatMap (s.failQueue o p).waitingOf = l.flatMap s.waitingOf := by
      refine List.flatMap_congr fun q hq => ?_
      rw [State.waitingOf, s.queue_failQueue p fun h => hp (h ▸ hq), State.waitingOf]
    have hrest := ih hl (s.failQueue o p)
    rw [hwaiting] at hrest
    have hedit : (fun (q : Port) (x : List Frame) => if q ∈ p :: l then [] else x) =
        fun q => (fun x => if q ∈ l then [] else x) ∘ emptyOf p q := by
      funext q x
      by_cases hqp : q = p
      · simp [emptyOf, hqp]
      · simp [emptyOf, hqp]
    rw [hedit]
    exact (s.failQueue_ended p).trans hrest

theorem State.failQueues_resumed {l : List Port} (hl : l.Nodup) (s : State) :
    Resumed (l.any fun p => !(s.port p).queue.isEmpty) s (l.foldl (fun t p => t.failQueue o p) s) := by
  induction l generalizing s with
  | nil => exact .of_eq rfl rfl rfl
  | cons p l ih =>
    obtain ⟨hp, hl⟩ := List.nodup_cons.mp hl
    have hqueues : (l.any fun q => !((s.failQueue o p).port q).queue.isEmpty) =
        l.any fun q => !(s.port q).queue.isEmpty := by
      rw [Bool.eq_iff_iff, List.any_eq_true, List.any_eq_true]
      refine exists_congr fun q => and_congr_right fun hq => ?_
      rw [s.queue_failQueue p fun h => hp (h ▸ hq)]
    have hrest := ih hl (s.failQueue o p)
    rw [hqueues] at hrest
    exact (s.failQueue_resumed p).trans hrest

/-- Every waiting frame of every port has failed (R53, R80). -/
theorem State.failWaiting_ended (s : State) :
    Ended o s.waiting s.waiting false (fun _ _ => []) s (s.failWaiting o) := by
  have hall := State.failQueues_ended (o := o) (l := Port.all) (by decide) s
  have hedit : (fun (q : Port) (x : List Frame) => if q ∈ Port.all then [] else x) = fun _ _ => [] := by
    funext q x
    simp [Port.mem_all]
  rw [hedit] at hall
  exact hall

theorem State.waiting_of (s : State) (q : Port) : s.waiting.of q = (s.port q).queue := by
  have hone (p : Port) : Owned.of (s.waitingOf p) q = if p = q then (s.port q).queue else [] := by
    unfold State.waitingOf Owned.of
    by_cases h : p = q
    · subst h
      simp [List.filter_map, Function.comp_def]
    · simp [List.filter_map, Function.comp_def, h]
  have hall : s.waiting = s.waitingOf .p0 ++ (s.waitingOf .p1 ++ (s.waitingOf .p2 ++ (s.waitingOf .p3 ++ []))) := rfl
  rw [hall]
  simp only [Owned.of_append, hone, Owned.of_nil]
  cases q <;> simp

theorem State.waiting_frames (s : State) : s.waiting.frames = Port.all.flatMap fun p => (s.port p).queue := by
  unfold State.waiting Owned.frames State.waitingOf
  rw [List.map_flatMap]
  simp [Function.comp_def]

end

/-! ### The line -/

/-- From s to t the framer, the free value and the window stay. -/
structure LineKept (s t : State) : Prop where
  framer : t.framer = s.framer
  freeTick : t.freeTick = s.freeTick
  window : t.engine.window = s.engine.window

section
variable {s t u : State}

theorem LineKept.refl (s : State) : LineKept s s := ⟨rfl, rfl, rfl⟩

theorem LineKept.trans (h : LineKept s t) (h' : LineKept t u) : LineKept s u :=
  ⟨h'.framer.trans h.framer, h'.freeTick.trans h.freeTick, h'.window.trans h.window⟩

theorem LineKept.foldl {α : Type} {f : State → α → State} (h : ∀ t x, LineKept t (f t x)) (l : List α) (s : State) :
    LineKept s (l.foldl f s) := by
  induction l generalizing s with
  | nil => exact .refl s
  | cons x l ih => exact (h s x).trans (ih _)

theorem State.settlePool_lineKept (s : State) : LineKept s s.settlePool :=
  ⟨by simp, by simp, by rw [State.settlePool_engine_eq, Engine.window_letGo]⟩

theorem State.freeFrame_lineKept (s : State) (p : Port) (f : Frame) : LineKept s (s.freeFrame p f) :=
  have returned : LineKept s (s.returnFrames p [f]) := ⟨rfl, rfl, rfl⟩
  returned.trans (State.settlePool_lineKept _)

theorem LineKept.ite {c : Prop} [Decidable c] (ht : LineKept s t) (hu : LineKept s u) :
    LineKept s (if c then t else u) := by
  split
  · exact ht
  · exact hu

theorem State.failFrame_lineKept (s : State) (p : Port) (o : CplOutcome) (f : Frame) :
    LineKept s (s.failFrame p o f) :=
  have converted (t : State) : LineKept t (t.convertSlot p f o) := ⟨rfl, rfl, rfl⟩
  (s.freeFrame_lineKept p f).trans ((converted _).ite (.refl _))

theorem State.failWaiting_lineKept (s : State) (o : CplOutcome) : LineKept s (s.failWaiting o) :=
  LineKept.foldl (fun t p =>
    have emptied : LineKept t (t.modPort p fun ps => { ps with queue := [] }) := ⟨rfl, rfl, rfl⟩
    emptied.trans (LineKept.foldl (fun u f => u.failFrame_lineKept p o f) _ _)) _ _

end

/-- The recorded level is that of shared free (R15). -/
theorem State.LevelLaw.level {s : State} (h : s.LevelLaw) : s.pool.level = s.levelNow := by
  unfold State.LevelLaw at h
  unfold State.levelNow
  split
  · next hlow => exact h.mpr hlow
  · next hhigh =>
    cases hlevel : s.pool.level with
    | below => exact absurd (h.mp hlevel) hhigh
    | atOrAbove => rfl

/-- Settles O37: the waiting frames end queue by queue, and the timer and the flushed condition follow. -/
theorem flushExpiry : Obligations.FlushExpiry := by
  intro s n q hreset htimer waiting
  have hended := s.failWaiting_ended (o := .linkDown)
  have hresumed : Resumed _ s (s.failWaiting .linkDown) := State.failQueues_resumed (l := Port.all) (by decide) s
  have hany : (Port.all.any fun p => !(s.port p).queue.isEmpty) = !waiting.isEmpty := by
    rw [Bool.eq_iff_iff]
    simp [waiting]
  have hexec : exec .flushTimerExpiry s = .next s.flushExpiry := by
    refine congrArg Host.Outcome.next ((State.trunkEvent_live hreset _).trans ?_)
    rw [State.flushTimerExpiry, htimer]
  have hport := hended.port q
  have hevents := fun hs => hended.events hs q
  have hfree := hended.free
  have hcells := hended.cells
  have hinbound := hended.inbound
  have hinboundCells := hended.inboundCells
  have hline := s.failWaiting_lineKept .linkDown
  have hengine := hresumed.engine
  have hrest := hended.rest
  have hlevel := fun hs => (hended.level hs).level
  simp only [State.waiting_of] at hport hevents
  rw [State.waiting_frames] at hfree hcells
  rw [hany, hline.window] at hengine
  refine ⟨s.flushExpiry, hexec, ?_⟩
  rw [State.flushExpiry]
  generalize s.failWaiting .linkDown = t at *
  refine ⟨hport, fun hs => ⟨hevents hs, hlevel hs⟩, hfree, hcells.trans (.of_eq (List.append_nil _)), ?_⟩
  have hpool : t.pool =
      { s.pool with free := t.pool.free, freeCells := t.pool.freeCells, level := t.pool.level } := by
    generalize t.pool = pool at hinbound hinboundCells ⊢
    cases pool
    cases hinbound
    cases hinboundCells
    rfl
  have hwindow (b : Bool) : { s.engine.letGo b with window := s.engine.window } = s.engine.letGo b :=
    (s.engine.letGo_window b s.engine.window).symm
  rw [hline.framer, hline.freeTick, hengine, hwindow, hpool] at hrest
  exact congrArg (fun t : State => { t with link := { t.link with flushTimer := .stopped, flushed := true } }) hrest

end Sys2Proof.Machine
end

section
/-! SUPPORT. TRUNK OFF (R80) and leaving UP (R86): the aborted transmission, the window, the queues and the reception, each
as frames that end. -/

namespace Sys2Proof.Machine

/-! ### The frames of the window and of the line -/

/-- The frames of window entries, as their owners' (R41). -/
def ownedOf (w : List WindowEntry) : Owned := w.map fun e => (e.owner, e.frame)

/-- The frame that has ended but is still on the line (R4). -/
def State.lineHeld (s : State) : Owned :=
  match s.framer.tx with
  | .idle => []
  | .sending t => t.held.toList

theorem ownedOf_of (w : List WindowEntry) (q : Port) : (ownedOf w).of q = entryFrames w q := by
  simp [ownedOf, Owned.of, entryFrames, List.filter_map, Function.comp_def]

theorem State.lineHeld_of (s : State) (q : Port) : s.lineHeld.of q = s.lineFrames q := by
  unfold State.lineHeld State.lineFrames
  cases s.framer.tx with
  | idle => rfl
  | sending t =>
    cases hheld : t.held with
    | none => simp [hheld]
    | some x =>
      simp only [hheld, Option.toList]
      exact Owned.of_singleton x.1 q x.2

theorem reported_of (w : List WindowEntry) (q : Port) :
    (ownedOf (w.filter (!·.orphan))).of q = reportedFrames w q := by
  simp [ownedOf_of, entryFrames, reportedFrames]

/-- Which entry is on the line does not matter to whose frames they are. -/
def offLine (w : List WindowEntry) : List WindowEntry := w.map fun e => { e with onLine := false }

theorem ownedOf_offLine (w : List WindowEntry) : ownedOf (offLine w) = ownedOf w := by
  simp [ownedOf, offLine]

theorem filter_orphan_offLine (w : List WindowEntry) (b : Bool) :
    (offLine w).filter (fun e => e.orphan == b) = offLine (w.filter fun e => e.orphan == b) := by
  simp [offLine, List.filter_map, Function.comp_def]

theorem returnedFrames_offLine (w : List WindowEntry) (q : Port) : returnedFrames (offLine w) q = returnedFrames w q := by
  simp [offLine, returnedFrames, List.filter_map, Function.comp_def]

section
variable {o : CplOutcome} {s t u : State}

theorem Ended.cast {g g' d d' : Owned} {c c' : Bool} {e e' : Port → List Frame → List Frame} (h : Ended o g d c e s t)
    (hg : g = g') (hd : d = d') (hc : c = c') (he : e = e') : Ended o g' d' c' e' s t := by
  subst hg hd hc he
  exact h

theorem State.endTransmission_ended (s : State) (c : List Byte) :
    Ended o s.lineHeld [] false (fun _ => id) s (s.endTransmission c) := by
  unfold State.endTransmission State.lineHeld
  cases s.framer.tx with
  | idle => exact .refl o s
  | sending x =>
    have hidle : Ended o [] [] false (fun _ => id) s
        { s with
          framer := { s.framer with tx := .idle, closing := c }
          engine := { s.engine with window := s.engine.window.map fun e => { e with onLine := false } } } :=
      .of_ports rfl rfl rfl rfl
    obtain ⟨kind, octets, held⟩ := x
    cases held with
    | none => exact hidle
    | some y => exact hidle.trans (State.freeFrame_ended _ y.1 y.2)

/-- What an aborted or ended transmission leaves of line and window. -/
theorem State.endTransmission_line (s : State) (c : List Byte) :
    (s.framer.tx = .idle ∧ s.endTransmission c = s) ∨
      s.framer.tx ≠ .idle ∧ (s.endTransmission c).framer = { s.framer with tx := .idle, closing := c } ∧
        (s.endTransmission c).engine.window = offLine s.engine.window ∧
        (s.endTransmission c).freeTick = s.freeTick := by
  unfold State.endTransmission
  cases htx : s.framer.tx with
  | idle => exact .inl ⟨rfl, rfl⟩
  | sending x =>
    refine .inr ⟨nofun, ?_⟩
    obtain ⟨kind, octets, held⟩ := x
    cases held with
    | none => exact ⟨rfl, rfl, rfl⟩
    | some y =>
      have hkept := State.freeFrame_lineKept
        { s with
          framer := { s.framer with tx := .idle, closing := c }
          engine := { s.engine with window := s.engine.window.map fun e => { e with onLine := false } } } y.1 y.2
      exact ⟨hkept.framer, hkept.window, hkept.freeTick⟩

theorem State.abortTransmission_ended (s : State) :
    Ended o s.lineHeld [] false (fun _ => id) s s.abortTransmission := by
  obtain ⟨htx, e⟩ | ⟨x, c, htx, -, e⟩ := s.abortTransmission_cases
  · rw [e, State.lineHeld, htx]
    exact .refl o s
  · rw [e]
    have hticked : Ended o [] [] false (fun _ => id) s { s with freeTick := s.freeTick + 1 } := .of_ports rfl rfl rfl rfl
    exact hticked.trans (State.endTransmission_ended _ c)

/-- What an abort leaves of the framer and the window (R66, R94). -/
theorem State.abortTransmission_line (s : State) :
    s.abortTransmission.framer =
        { s.framer with tx := .idle, closing := s.abortTransmission.framer.closing } ∧
      (s.framer.tx = .idle → s.abortTransmission.framer.closing = s.framer.closing) ∧
      (s.framer.tx ≠ .idle → s.abortTransmission.framer.closing = [Config.escape, Config.marker] ∨
        s.abortTransmission.framer.closing = [Config.marker]) ∧
      (s.abortTransmission.engine.window = s.engine.window ∨
        s.abortTransmission.engine.window = offLine s.engine.window) := by
  obtain ⟨htx, e⟩ | ⟨x, c, htx, hc, e⟩ := s.abortTransmission_cases
  · rw [e]
    refine ⟨?_, fun _ => rfl, fun h => absurd htx h, .inl rfl⟩
    rw [← htx]
  · rw [e]
    obtain ⟨hidle, -⟩ | ⟨-, hframer, hwindow, -⟩ :=
      State.endTransmission_line { s with freeTick := s.freeTick + 1 } c
    · exact absurd (htx.symm.trans hidle) nofun
    · rw [hframer]
      exact ⟨rfl, fun h => absurd (htx.symm.trans h) nofun, fun _ => hc, .inr hwindow⟩

theorem State.cutOff_ended (s : State) (after : RxState) :
    Ended o [] [] (s.framer.rxState == .receiving) (fun _ => id) s (s.cutOff after) := by
  obtain ⟨hrx, e⟩ | ⟨hrx, e⟩ := s.cutOff_cases after
  · rw [e, beq_eq_false_iff_ne.mpr hrx]
    exact .refl o s
  · rw [e, hrx]
    have hmoved : Ended o [] [] false (fun _ => id) s.releaseInbound
        { s.releaseInbound with framer := { s.releaseInbound.framer with rxState := after } } := .of_ports rfl rfl rfl rfl
    exact s.releaseInbound_ended.trans hmoved

theorem State.releaseInbound_line (s : State) :
    s.releaseInbound.framer = { s.framer with stored := [] } ∧ s.releaseInbound.engine.window = s.engine.window := by
  unfold State.releaseInbound
  dsimp only
  split
  · exact ⟨rfl, rfl⟩
  · refine ⟨by simp, ?_⟩
    rw [(State.settlePool_lineKept _).window]

theorem State.cutOff_line (s : State) (after : RxState) :
    (s.cutOff after).framer =
        { s.framer with
          rxState := if s.framer.rxState == .receiving then after else s.framer.rxState
          stored := if s.framer.rxState == .receiving then [] else s.framer.stored } ∧
      (s.cutOff after).engine.window = s.engine.window := by
  obtain ⟨hrx, e⟩ | ⟨hrx, e⟩ := s.cutOff_cases after
  · rw [e, beq_eq_false_iff_ne.mpr hrx]
    exact ⟨rfl, rfl⟩
  · obtain ⟨hframer, hwindow⟩ := s.releaseInbound_line
    rw [e, hframer, hrx]
    exact ⟨rfl, hwindow⟩

/-! ### The window fails -/

theorem State.failEntry_ended (s : State) (e : WindowEntry) :
    Ended .linkOff [(e.owner, e.frame)] (ownedOf ([e].filter (!·.orphan))) false (fun _ => id) s (s.failEntry e) := by
  unfold State.failEntry
  have hfreed := s.freeFrame_ended (o := .linkOff) e.owner e.frame
  cases horphan : e.orphan with
  | true =>
    simp only [Bool.not_true, Bool.and_false, Bool.false_eq_true, if_false]
    exact hfreed.cast rfl (by simp [ownedOf, horphan]) rfl rfl
  | false =>
    simp only [Bool.not_false, Bool.and_true]
    exact (hfreed.trans (State.told_ended _ e.owner e.frame)).cast rfl (by simp [ownedOf, horphan]) rfl rfl

theorem State.failEntry_lineKept (s : State) (e : WindowEntry) : LineKept s (s.failEntry e) :=
  have converted (t : State) : LineKept t (t.convertSlot e.owner e.frame .linkOff) := ⟨rfl, rfl, rfl⟩
  (s.freeFrame_lineKept e.owner e.frame).trans ((converted _).ite (.refl _))

theorem ownedOf_flatMap_filter (w : List WindowEntry) :
    (w.flatMap fun e => ownedOf ([e].filter (!·.orphan))) = ownedOf (w.filter (!·.orphan)) := by
  induction w with
  | nil => rfl
  | cons e w ih =>
    rw [List.flatMap_cons, ih]
    cases h : e.orphan <;> simp [ownedOf, h]

theorem State.failWindow_ended (s : State) :
    Ended .linkOff (ownedOf s.engine.window) (ownedOf (s.engine.window.filter (!·.orphan))) false (fun _ => id) s
      s.failWindow := by
  have hemptied : Ended .linkOff [] [] false (fun _ => id) s { s with engine := { s.engine with window := [] } } :=
    .of_ports rfl rfl rfl rfl
  have hfailed := Ended.foldl (fun t e => State.failEntry_ended t e) s.engine.window
    { s with engine := { s.engine with window := [] } }
  rw [Owned.flatMap_singleton, ownedOf_flatMap_filter] at hfailed
  exact hemptied.trans hfailed

theorem State.failWindow_line (s : State) : s.failWindow.framer = s.framer ∧ s.failWindow.engine.window = [] :=
  have hkept := LineKept.foldl (fun t e => State.failEntry_lineKept t e) s.engine.window
    { s with engine := { s.engine with window := [] } }
  ⟨hkept.framer, hkept.window⟩

/-! ### TRUNK OFF -/

theorem State.waiting_congr (h : ∀ q, (t.port q).queue = (s.port q).queue) : t.waiting = s.waiting := by
  unfold State.waiting State.waitingOf
  simp only [h]

/-- The part of TRUNK OFF that ends frames (R80). -/
def State.switchedOff (s : State) : State :=
  ((s.abortTransmission.failWindow).failWaiting .linkOff).cutOff .ignoring

theorem ownedOf_aborted (s : State) :
    ownedOf s.abortTransmission.engine.window = ownedOf s.engine.window ∧
      ownedOf (s.abortTransmission.engine.window.filter (!·.orphan)) =
        ownedOf (s.engine.window.filter (!·.orphan)) := by
  obtain ⟨-, -, -, hwindow | hwindow⟩ := s.abortTransmission_line
  · rw [hwindow]
    exact ⟨rfl, rfl⟩
  · rw [hwindow]
    have hfilter : (fun e : WindowEntry => !e.orphan) = fun e => e.orphan == false := by
      funext e
      cases e.orphan <;> rfl
    rw [hfilter, filter_orphan_offLine, ownedOf_offLine, ownedOf_offLine]
    exact ⟨rfl, rfl⟩

theorem State.switchedOff_ended (s : State) :
    Ended .linkOff (s.lineHeld ++ (ownedOf s.engine.window ++ s.waiting))
      (ownedOf (s.engine.window.filter (!·.orphan)) ++ s.waiting) (s.framer.rxState == .receiving) (fun _ _ => []) s
      s.switchedOff := by
  have haborted := s.abortTransmission_ended (o := .linkOff)
  have hwindow := s.abortTransmission.failWindow_ended
  have hwaiting := s.abortTransmission.failWindow.failWaiting_ended (o := .linkOff)
  have hcut := (s.abortTransmission.failWindow.failWaiting .linkOff).cutOff_ended (o := .linkOff) .ignoring
  have hqueues : s.abortTransmission.failWindow.waiting = s.waiting := State.waiting_congr fun q => by
    rw [hwindow.port q, haborted.port q]
    rfl
  have hrx : (s.abortTransmission.failWindow.failWaiting .linkOff).framer.rxState = s.framer.rxState := by
    rw [(State.failWaiting_lineKept _ _).framer, (State.failWindow_line _).1, s.abortTransmission_line.1]
  obtain ⟨howned, hreported⟩ := ownedOf_aborted s
  rw [howned, hreported] at hwindow
  rw [hqueues] at hwaiting
  rw [hrx] at hcut
  exact (((haborted.trans hwindow).trans hwaiting).trans hcut).cast (by simp) (by simp) (by simp) rfl

theorem State.switchedOff_line (s : State) :
    s.switchedOff.framer =
        { s.framer with
          tx := .idle, closing := s.abortTransmission.framer.closing
          rxState := if s.framer.rxState == .receiving then .ignoring else s.framer.rxState
          stored := if s.framer.rxState == .receiving then [] else s.framer.stored } ∧
      s.switchedOff.engine.window = [] := by
  have hwaiting := s.abortTransmission.failWindow.failWaiting_lineKept .linkOff
  obtain ⟨hframer, hwindow⟩ := s.abortTransmission.failWindow_line
  obtain ⟨hcutFramer, hcutWindow⟩ := (s.abortTransmission.failWindow.failWaiting .linkOff).cutOff_line .ignoring
  have hbefore : (s.abortTransmission.failWindow.failWaiting .linkOff).framer =
      { s.framer with tx := .idle, closing := s.abortTransmission.framer.closing } := by
    rw [hwaiting.framer, hframer]
    exact s.abortTransmission_line.1
  unfold State.switchedOff
  refine ⟨?_, hcutWindow.trans (hwaiting.window.trans hwindow)⟩
  rw [hcutFramer, hbefore]

/-- What TRUNK OFF leaves once the frames have ended: the line ignored, the engine quiet and the link OFF (R80). -/
def State.silenced (t : State) : State :=
  State.raiseAll
    { t with
      framer := { t.framer with rxState := .ignoring, watch := .stopped, cut := false }
      engine := t.engine.quiet
      link :=
        { t.link with
          state := .off, flushTimer := .stopped, flushed := false, helloTimer := .stopped, helloDue := false
          intervalTimer := .stopped, holdOffTimer := .stopped, heard := false, confCount := 0, lossCount := 0 } }
    .linkChange

theorem State.trunkOff_of_not_off (h : s.link.state ≠ .off) : s.trunkOff = s.switchedOff.silenced := by
  have ended (t : State) :
      State.enterOff
          { t with
            framer := { t.framer with rxState := .ignoring, watch := .stopped, cut := false }, engine := t.engine.quiet } =
        t.silenced := rfl
  have hswitched : ((s.abortTransmission.failWindow).failWaiting .linkOff).cutOff .ignoring = s.switchedOff := rfl
  unfold State.trunkOff
  rw [if_neg h]
  generalize s.switchedOff = t at hswitched ⊢
  rw [hswitched]
  exact ended t

theorem Owned.frames_perm_of (l : Owned) {of : Port → List Frame} (h : ∀ q, l.of q = of q) :
    l.frames.Perm (Port.all.flatMap of) := by
  have hall : Port.all.flatMap l.of = Port.all.flatMap of := congrArg (Port.all.flatMap ·) (funext h)
  exact (l.perm_frames.symm).trans (.of_eq hall)

theorem Ended.port_raiseAll {g d : Owned} {c : Bool} {e : Port → List Frame → List Frame} (h : Ended o g d c e s t)
    (q : Port) (v : Event) :
    (t.port q).raise v =
      { s.port q with
        holdings := (s.port q).holdings - cellsOf (g.of q), queue := e q (s.port q).queue
        cpl := (s.port q).cpl.convert o (d.of q), events := ((t.port q).raise v).events } := by
  unfold PortState.raise
  rw [h.port q]

theorem Ended.events_raiseAll {g d : Owned} {c : Bool} {e : Port → List Frame → List Frame} (h : Ended o g d c e s t)
    (hs : s.LevelLaw) (q : Port) (v : Event) :
    ((t.port q).raise v).events =
      (s.port q).events.raised (v.bit ||| Event.txDone.bitIf ((d.of q).any Frame.notifies)) := by
  rw [PortState.raise_eq_raised, h.events hs q, EventUnit.raised_raised, BitVec.or_comm]

end

/-- Settles O31: the frames end, and framer, engine and link follow. -/
theorem trunkOff : Obligations.TrunkOff := by
  intro s p q hready hholder
  have hexec : exec (.trunkOff p) s = .next (s.answered p 0 .ok [] s.trunkOff) := by
    have hturn : s.turnTrunkOff p = { state := s.trunkOff, result := .ok } := State.ifHolder_of_holder hholder _
    have h : exec (.trunkOff p) s = .next (s.answeredBy p 0 (s.turnTrunkOff p)) :=
      exec_ready (c := .trunkOff p) rfl rfl hready
    rw [hturn] at h
    exact h
  refine ⟨fun hoff => ?_, fun hoff => ?_⟩
  · rw [hexec, State.trunkOff, if_pos hoff]
  · intro frames freed cutOff
    have h := s.switchedOff_ended
    obtain ⟨hframer, hwindow⟩ := s.switchedOff_line
    obtain ⟨-, hidle, hbusy, -⟩ := s.abortTransmission_line
    have hgone (r : Port) : Owned.of (s.lineHeld ++ (ownedOf s.engine.window ++ s.waiting)) r = freed r := by
      simp [freed, State.lineHeld_of, ownedOf_of, State.waiting_of]
    have htold (r : Port) : Owned.of (ownedOf (s.engine.window.filter (!·.orphan)) ++ s.waiting) r = frames r := by
      simp only [frames, Owned.of_append, reported_of, State.waiting_of]
    have hall := Owned.frames_perm_of _ hgone
    have hport := h.port_raiseAll q .linkChange
    have hevents := fun hs => h.events_raiseAll hs q .linkChange
    rw [hgone, htold] at hport
    simp only [htold] at hevents
    have hengine := h.engine
    have hrest := h.rest
    have hfree := h.free
    have hcells := h.cells
    have hclosing : s.switchedOff.framer.closing = s.abortTransmission.framer.closing := by rw [hframer]
    rw [← hclosing] at hidle hbusy
    rw [cellsOf_perm hall] at hfree
    refine ⟨s.trunkOff, hexec, ?_⟩
    rw [State.trunkOff_of_not_off hoff]
    generalize s.switchedOff = t at *
    refine ⟨?_, fun hs => ⟨?_, (h.level hs).level⟩, hfree, h.inbound, ?_, h.inboundCells, ?_, hidle, hbusy, ?_, ?_, ?_⟩
    · rw [State.silenced, State.port_raiseAll]
      exact hport
    · rw [State.silenced, State.port_raiseAll]
      exact hevents hs
    · exact hcells.trans (((cellList_perm hall).append_left _).append_right _)
    · show { t.framer with rxState := .ignoring, watch := .stopped, cut := false } = _
      have hclosing : t.silenced.framer.closing = t.framer.closing := rfl
      rw [hclosing, hframer]
    · show t.engine.quiet = _
      rw [hengine, hwindow]
      rfl
    · show { t.link with
        state := .off, flushTimer := .stopped, flushed := false, helloTimer := .stopped, helloDue := false
        intervalTimer := .stopped, holdOffTimer := .stopped, heard := false, confCount := 0, lossCount := 0 } = _
      rw [hrest]
    · have hsilenced : t.silenced =
          { t with
            ports := t.silenced.ports, framer := t.silenced.framer, engine := t.silenced.engine
            link := t.silenced.link } := rfl
      generalize t.silenced = v at hsilenced ⊢
      rw [hsilenced, hrest]

end Sys2Proof.Machine
end

section
/-! SUPPORT. Leaving UP for LOST (R50, R51, R52, R56, R86). -/

namespace Sys2Proof.Machine

section
variable {o : CplOutcome} {s t u : State}

/-! ### The window returns -/

theorem State.discardOrphans_ended (s : State) :
    Ended o (ownedOf (s.engine.window.filter (·.orphan))) [] false (fun _ => id) s s.discardOrphans := by
  have hfreed := Ended.foldl (o := o) (fun t (e : WindowEntry) => t.freeFrame_ended e.owner e.frame)
    (s.engine.window.filter (·.orphan)) s
  rw [Owned.flatMap_singleton] at hfreed
  exact hfreed.cast rfl (by simp) rfl rfl

theorem State.discardOrphans_lineKept (s : State) : LineKept s s.discardOrphans :=
  LineKept.foldl (fun t (e : WindowEntry) => t.freeFrame_lineKept e.owner e.frame) _ s

theorem State.requeues_eq (s : State) (w : List WindowEntry) (l : List Port) :
    l.foldl (fun t p => t.requeue w p) s =
      { s with ports := (l.foldl (fun t p => t.requeue w p) s).ports } :=
  State.foldl_modPort_eq (fun p ps => { ps with queue := returnedFrames w p ++ ps.queue }) l s

theorem State.port_requeues (s : State) (w : List WindowEntry) (q : Port) :
    (Port.all.foldl (fun t p => t.requeue w p) s).port q =
      { s.port q with queue := returnedFrames w q ++ (s.port q).queue } := by
  have hport := State.port_foldl_modPort (fun p ps => { ps with queue := returnedFrames w p ++ ps.queue })
    (l := Port.all) (by decide) s q
  rw [if_pos (Port.mem_all q)] at hport
  exact hport

/-- The frames that go back to the queues stand at their heads (R50). -/
theorem State.requeues_ended (s : State) (w : List WindowEntry) :
    Ended o [] [] false (fun q l => returnedFrames w q ++ l) s
      { Port.all.foldl (fun t p => t.requeue w p) s with
        engine := { (Port.all.foldl (fun t p => t.requeue w p) s).engine with window := [] } } := by
  have hport := s.port_requeues w
  have heq := s.requeues_eq w Port.all
  generalize Port.all.foldl (fun t p => t.requeue w p) s = v at hport heq ⊢
  refine .of_eq _ hport ?_ ?_ ?_
  all_goals
    rw [heq]
    try rfl

theorem State.returnWindow_ended (s : State) :
    Ended o (ownedOf (s.engine.window.filter (·.orphan))) [] false
      (fun q l => returnedFrames s.engine.window q ++ l) s s.returnWindow :=
  (s.discardOrphans_ended.trans (State.requeues_ended s.discardOrphans s.engine.window)).cast (by simp) rfl rfl rfl

theorem State.returnWindow_line (s : State) : s.returnWindow.framer = s.framer ∧ s.returnWindow.engine.window = [] := by
  have hframer : s.returnWindow.framer = s.discardOrphans.framer :=
    have hkept := congrArg State.framer (s.discardOrphans.requeues_eq s.engine.window Port.all)
    hkept
  exact ⟨hframer.trans s.discardOrphans_lineKept.framer, rfl⟩

/-! ### Leaving UP -/

/-- The part of leaving UP before the flush timer (R86): the transmission aborted, the window returned, the reception cut
off. -/
def State.broughtBack (s : State) : State := s.abortTransmission.returnWindow.cutOff .discarding

theorem aborted_orphans (s : State) :
    ownedOf (s.abortTransmission.engine.window.filter (·.orphan)) = ownedOf (s.engine.window.filter (·.orphan)) ∧
      returnedFrames s.abortTransmission.engine.window = returnedFrames s.engine.window := by
  obtain ⟨-, -, -, hwindow | hwindow⟩ := s.abortTransmission_line
  · rw [hwindow]
    exact ⟨rfl, rfl⟩
  · rw [hwindow]
    have hfilter : (fun e : WindowEntry => e.orphan) = fun e => e.orphan == true := by
      funext e
      cases e.orphan <;> rfl
    rw [hfilter, filter_orphan_offLine, ownedOf_offLine]
    exact ⟨rfl, funext fun q => returnedFrames_offLine _ q⟩

theorem State.broughtBack_ended (s : State) :
    Ended o (s.lineHeld ++ ownedOf (s.engine.window.filter (·.orphan))) [] (s.framer.rxState == .receiving)
      (fun q l => returnedFrames s.engine.window q ++ l) s s.broughtBack := by
  have haborted := s.abortTransmission_ended (o := o)
  have hreturned := s.abortTransmission.returnWindow_ended (o := o)
  have hcut := s.abortTransmission.returnWindow.cutOff_ended (o := o) .discarding
  obtain ⟨horphans, hback⟩ := aborted_orphans s
  have hrx : s.abortTransmission.returnWindow.framer.rxState = s.framer.rxState := by
    rw [(State.returnWindow_line _).1, s.abortTransmission_line.1]
  rw [horphans, hback] at hreturned
  rw [hrx] at hcut
  exact ((haborted.trans hreturned).trans hcut).cast (by simp) rfl (by simp) rfl

theorem State.broughtBack_line (s : State) :
    s.broughtBack.framer =
        { s.framer with
          tx := .idle, closing := s.abortTransmission.framer.closing
          rxState := if s.framer.rxState == .receiving then .discarding else s.framer.rxState
          stored := if s.framer.rxState == .receiving then [] else s.framer.stored } ∧
      s.broughtBack.engine.window = [] := by
  obtain ⟨hframer, hwindow⟩ := s.abortTransmission.returnWindow_line
  obtain ⟨hcutFramer, hcutWindow⟩ := s.abortTransmission.returnWindow.cutOff_line .discarding
  have hbefore : s.abortTransmission.returnWindow.framer =
      { s.framer with tx := .idle, closing := s.abortTransmission.framer.closing } :=
    hframer.trans s.abortTransmission_line.1
  rw [hbefore] at hcutFramer
  exact ⟨hcutFramer, hcutWindow.trans hwindow⟩

/-- The flush timer, started now, expires at once (R52, R56). -/
def State.flushesAtOnce (s : State) : Bool := s.link.flushTimer == .stopped && s.params.tFlush == 0

/-- The state in which the link becomes LOST: the engine quiet, and the waiting frames failed when the flush timer
expires at once (R56, R86). -/
def State.drained (s : State) : State :=
  let t : State := { s with engine := s.engine.quiet }
  if s.flushesAtOnce then t.failWaiting .linkDown else t

theorem State.drained_ended (s : State) :
    Ended .linkDown (if s.flushesAtOnce then s.waiting else []) (if s.flushesAtOnce then s.waiting else []) false
      (fun _ l => if s.flushesAtOnce then [] else l) s s.drained := by
  have hquiet : Ended .linkDown [] [] false (fun _ => id) s { s with engine := s.engine.quiet } := .of_ports rfl rfl rfl rfl
  unfold State.drained
  cases s.flushesAtOnce with
  | false => exact hquiet
  | true => exact hquiet.trans (State.failWaiting_ended { s with engine := s.engine.quiet })

theorem State.drained_line (s : State) : s.drained.framer = s.framer ∧ s.drained.engine = s.engine.quiet := by
  unfold State.drained
  cases s.flushesAtOnce with
  | false => exact ⟨rfl, rfl⟩
  | true =>
    have hline := State.failWaiting_lineKept { s with engine := s.engine.quiet } .linkDown
    have hresumed := State.failQueues_resumed (o := .linkDown) (l := Port.all) (by decide)
      { s with engine := s.engine.quiet }
    refine ⟨hline.framer, hresumed.engine.trans ?_⟩
    have hnot (b : Bool) : s.engine.quiet.letGo b = s.engine.quiet := by simp [Engine.letGo, Engine.quiet]
    have hwindow := hline.window
    unfold State.failWaiting at hwindow
    rw [hwindow, hnot]

/-- The link LOST with a cause (R86). -/
def State.lostFrom (t s : State) (cause : LossCause) : State :=
  State.raiseAll
    { t with
      link :=
        { s.link with
          state := .lost, lossCount := 0, heard := false, lastCause := cause, helloTimer := .stopped
          helloDue := false, intervalTimer := .stopped, holdOffTimer := .running s.params.tHold
          flushTimer :=
            if s.link.flushTimer = .stopped ∧ s.params.tFlush ≠ 0 then .running s.params.tFlush
            else s.link.flushTimer
          flushed := if s.flushesAtOnce then true else s.link.flushed } }
    .linkChange

/-- The flush timer started and the link LOST, from the state with the engine quiet (R52, R56, R86). -/
theorem State.enterLost_startFlushTimer (s : State) (cause : LossCause) :
    (State.startFlushTimer { s with engine := s.engine.quiet }).enterLost cause = s.drained.lostFrom s cause := by
  have hparams : s.drained.params = s.params := by rw [s.drained_ended.rest]
  have hlink : s.drained.link = s.link := by rw [s.drained_ended.rest]
  unfold State.lostFrom
  obtain ⟨hrunning, heq⟩ | ⟨hstopped, hzero, heq⟩ | ⟨hstopped, hpositive, heq⟩ :=
    State.startFlushTimer_cases { s with engine := s.engine.quiet }
  · have hnot : s.flushesAtOnce = false := by simp_all [State.flushesAtOnce]
    have hdrained : s.drained = { s with engine := s.engine.quiet } := by simp [State.drained, hnot]
    have hkeeps : ¬ (s.link.flushTimer = .stopped ∧ s.params.tFlush ≠ 0) := fun h => hrunning h.1
    rw [heq, hdrained, if_neg hkeeps, hnot]
    rfl
  · have hyes : s.flushesAtOnce = true := by simp_all [State.flushesAtOnce]
    have hdrained : s.drained = State.failWaiting { s with engine := s.engine.quiet } .linkDown := by
      simp [State.drained, hyes]
    have hkeeps : ¬ (s.link.flushTimer = .stopped ∧ s.params.tFlush ≠ 0) := fun h => h.2 hzero
    rw [heq, if_neg hkeeps, hyes, State.flushExpiry, ← hdrained]
    generalize s.drained = t at *
    unfold State.enterLost State.setLinkState
    dsimp only
    rw [hlink, hparams, hstopped]
    rfl
  · have hnot : s.flushesAtOnce = false := by simp_all [State.flushesAtOnce]
    have hdrained : s.drained = { s with engine := s.engine.quiet } := by simp [State.drained, hnot]
    rw [heq, hdrained, if_pos ⟨hstopped, hpositive⟩, hnot]
    rfl

theorem State.broughtBack_kept (s : State) : s.broughtBack.params = s.params ∧ s.broughtBack.link = s.link := by
  have hrest := (s.broughtBack_ended (o := .linkDown)).rest
  rw [hrest]
  exact ⟨rfl, rfl⟩

theorem State.leaveUp_eq (s : State) (cause : LossCause) :
    s.leaveUp cause = s.broughtBack.drained.lostFrom s cause := by
  obtain ⟨hparams, hlink⟩ := s.broughtBack_kept
  have h := s.broughtBack.enterLost_startFlushTimer cause
  have hfrom : s.broughtBack.drained.lostFrom s.broughtBack cause = s.broughtBack.drained.lostFrom s cause := by
    unfold State.lostFrom State.flushesAtOnce
    rw [hparams, hlink]
  rw [hfrom] at h
  exact h

/-- The frames that leaving UP ends: those held at the line, the orphans, and the waiting ones when the flush timer
expires at once. -/
theorem State.left_ended (s : State) :
    Ended .linkDown
      (s.lineHeld ++ ownedOf (s.engine.window.filter (·.orphan)) ++
        (if s.flushesAtOnce then s.broughtBack.waiting else []))
      (if s.flushesAtOnce then s.broughtBack.waiting else []) (s.framer.rxState == .receiving)
      (fun q l => if s.flushesAtOnce then [] else returnedFrames s.engine.window q ++ l) s s.broughtBack.drained := by
  obtain ⟨hparams, hlink⟩ := s.broughtBack_kept
  have hflush : s.broughtBack.flushesAtOnce = s.flushesAtOnce := by
    unfold State.flushesAtOnce
    rw [hparams, hlink]
  have hdrained := s.broughtBack.drained_ended
  rw [hflush] at hdrained
  exact (s.broughtBack_ended.trans hdrained).cast rfl rfl (by simp) rfl

end

/-- Settles O32: the frames end, the window is back in the queues, and framer, engine and link follow. -/
theorem leavingUp : Obligations.LeavingUp := by
  intro s cause q t queue flush freed cutOff
  have h := s.left_ended
  obtain ⟨hframer, hwindow⟩ := s.broughtBack_line
  obtain ⟨hkeptFramer, hquiet⟩ := s.broughtBack.drained_line
  rw [hframer] at hkeptFramer
  obtain ⟨-, hidle, hbusy, -⟩ := s.abortTransmission_line
  have hflush : s.flushesAtOnce = flush := rfl
  have hqueue (r : Port) : returnedFrames s.engine.window r ++ (s.port r).queue = queue r := rfl
  have hwaiting (r : Port) : s.broughtBack.waiting.of r = queue r := by
    rw [State.waiting_of, (s.broughtBack_ended (o := .linkDown)).port r]
    exact hqueue r
  have htold (r : Port) :
      Owned.of (if s.flushesAtOnce then s.broughtBack.waiting else []) r = if flush then queue r else [] := by
    rw [hflush]
    cases flush with
    | true => exact hwaiting r
    | false => rfl
  have hgone (r : Port) : Owned.of (s.lineHeld ++ ownedOf (s.engine.window.filter (·.orphan)) ++
      (if s.flushesAtOnce then s.broughtBack.waiting else [])) r = freed r := by
    simp only [freed, Owned.of_append, State.lineHeld_of, ownedOf_of, htold]
  have hall := Owned.frames_perm_of _ hgone
  have hport := h.port_raiseAll q .linkChange
  have hevents := fun hs => h.events_raiseAll hs q .linkChange
  rw [hgone, htold, hqueue, hflush] at hport
  simp only [htold] at hevents
  have hrest := h.rest
  have hfree := h.free
  have hcells := h.cells
  rw [cellsOf_perm hall] at hfree
  have hengineEq := h.engine
  have heq := s.leaveUp_eq cause
  have ht : t = s.broughtBack.drained.lostFrom s cause := heq
  clear_value t
  subst ht
  have hclosing : s.broughtBack.drained.framer.closing = s.abortTransmission.framer.closing := by rw [hkeptFramer]
  rw [← hclosing] at hidle hbusy
  have hlevel := fun hs => (h.level hs).level
  have hinbound := h.inbound
  have hinboundCells := h.inboundCells
  have hengine : s.broughtBack.drained.engine = { s.engine.quiet with window := [] } := by
    have hwindow : s.broughtBack.drained.engine.window = [] := by
      rw [hquiet]
      exact hwindow
    have hsame : s.broughtBack.drained.engine.quiet = s.broughtBack.drained.engine := by
      rw [hquiet]
      rfl
    rw [← hsame, h.engine, hwindow]
  generalize s.broughtBack.drained = v at *
  refine ⟨?_, fun hs => ⟨?_, hlevel hs⟩, hfree, hinbound, ?_, hinboundCells, ?_, hidle, hbusy, ?_, rfl, ?_⟩
  · rw [State.lostFrom, State.port_raiseAll]
    have hcpl : (s.port q).cpl.convert .linkDown (if flush then queue q else []) =
        if flush then (s.port q).cpl.convert .linkDown (queue q) else (s.port q).cpl := by
      cases flush
      · exact CplList.convert_nil _ _
      · rfl
    rw [hcpl] at hport
    exact hport
  · rw [State.lostFrom, State.port_raiseAll]
    refine (hevents hs).trans ?_
    cases flush <;> rfl
  · exact hcells.trans (((cellList_perm hall).append_left _).append_right _)
  · have hlost : (v.lostFrom s cause).framer.closing = s.abortTransmission.framer.closing := hclosing
    rw [hlost]
    exact hkeptFramer
  · exact hengine
  · have hlost : v.lostFrom s cause =
        { v with ports := (v.lostFrom s cause).ports, link := (v.lostFrom s cause).link } := rfl
    generalize v.lostFrom s cause = w at hlost ⊢
    rw [hlost, hrest]

end Sys2Proof.Machine
end

section
/-! SUPPORT. The check (R62): it is linear, so its residue does not depend on the octets. -/

namespace Sys2Proof.Machine

theorem checkBit_xor (a b : Word) : checkBit (a ^^^ b) = checkBit a ^^^ checkBit b := by
  unfold checkBit
  rw [BitVec.msb_xor, BitVec.shiftLeft_xor_distrib]
  cases a.msb <;> cases b.msb <;> simp only [Bool.xor_false, Bool.xor_true, Bool.not_true, Bool.not_false,
    Bool.false_eq_true, if_true, if_false] <;> ac_nf
  simp

/-- The eight bits of an octet shifted through the register. -/
def checkRun (r : Word) : Word := checkBit^[8] r

theorem checkOctet_eq (r : Word) (b : Byte) : checkOctet r b = checkRun (r ^^^ (b.zeroExtend 16 <<< 8)) := rfl

theorem checkRun_xor (a b : Word) : checkRun (a ^^^ b) = checkRun a ^^^ checkRun b := by
  have run (n : Nat) : ∀ a b : Word, checkBit^[n] (a ^^^ b) = checkBit^[n] a ^^^ checkBit^[n] b := by
    induction n with
    | zero => exact fun _ _ => rfl
    | succ n ih =>
      intro a b
      rw [Function.iterate_succ_apply, Function.iterate_succ_apply, Function.iterate_succ_apply, checkBit_xor, ih]
  exact run 8 a b

/-- An octet in the low half of the register reaches the high half unchanged. -/
theorem checkRun_low (b : Byte) : checkRun (b.zeroExtend 16) = b.zeroExtend 16 <<< 8 := by
  have run (n : Nat) (hn : n ≤ 8) : checkBit^[n] (b.zeroExtend 16) = b.zeroExtend 16 <<< n := by
    induction n with
    | zero => simp
    | succ n ih =>
      have hmsb : (b.zeroExtend 16 <<< n).msb = false := by
        simp [BitVec.msb_eq_getLsbD_last]
        intro h
        exact BitVec.getLsbD_of_ge b _ (by omega)
      rw [Function.iterate_succ_apply', ih (by omega), checkBit, hmsb, BitVec.shiftLeft_add]
      rfl
  exact run 8 le_rfl

theorem getElem_highOctet (i : Nat) (hi : i < 16) : (0xFF00#16)[i] = !decide (i < 8) := by
  interval_cases i <;> simp

/-- Settles O49: the register's high half meets its own complement, then its low half does. -/
theorem checkResidue : Obligations.CheckResidue := by
  intro l
  have hoctets (r : Word) : (octets16 (~~~r)).foldl checkOctet r = 0x1D0F#16 := by
    have hhigh : r ^^^ (((~~~r).extractLsb' 8 8).zeroExtend 16 <<< 8) =
        0xFF00#16 ^^^ (r.extractLsb' 0 8).zeroExtend 16 := by
      ext i hi
      have hsmall : i - 8 < 8 := by omega
      simp only [BitVec.getElem_xor, getElem_highOctet]
      by_cases h : i < 8
      · simp [h, BitVec.getLsbD_eq_getElem hi]
      · have hback : 8 + (i - 8) = i := by omega
        simp [h, hsmall, hback, hi]
    have hlow : (r.extractLsb' 0 8).zeroExtend 16 <<< 8 ^^^ (((~~~r).extractLsb' 0 8).zeroExtend 16 <<< 8) =
        0xFF00#16 := by
      ext i hi
      have hsmall : i - 8 < 8 := by omega
      have hwide : i - 8 < 16 := by omega
      simp only [BitVec.getElem_xor, getElem_highOctet]
      by_cases h : i < 8 <;> simp [h, hsmall, hwide]
    have hfirst : checkOctet r ((~~~r).extractLsb' 8 8) =
        checkRun 0xFF00#16 ^^^ (r.extractLsb' 0 8).zeroExtend 16 <<< 8 := by
      rw [checkOctet_eq, hhigh, checkRun_xor, checkRun_low]
    show checkOctet (checkOctet r ((~~~r).extractLsb' 8 8)) ((~~~r).extractLsb' 0 8) = _
    have hhalf : checkRun 0xFF00#16 = 0x1EF0#16 := rfl
    have hwhole : checkRun 0xE1F0#16 = 0x1D0F#16 := rfl
    rw [hfirst, checkOctet_eq, BitVec.xor_assoc, hlow, hhalf]
    exact hwhole
  rw [withCheck, checkOf_append]
  exact hoctets _

end Sys2Proof.Machine
end

section
/-! SUPPORT. What may start at a frame boundary (R45, R64, R99, R101, R105), and the end of a transmission (R65). -/

namespace Sys2Proof.Machine

section
variable {s : State}

/-! ### The conditions -/

theorem State.someQueued_iff : s.someQueued = true ↔ ¬∀ q, (s.port q).queue = [] := by
  simp [State.someQueued, Port.mem_all]

theorem Engine.noFlowOrReject_iff {e : Engine} :
    e.noFlowOrReject = true ↔ e.flowOwed = .none ∧ e.rejectOwed = false := by
  simp [Engine.noFlowOrReject]

theorem State.mayArbitrate_iff :
    s.mayArbitrate = true ↔
      s.framer.tx = .idle ∧ s.link.state = .up ∧ s.engine.peerHalted = false ∧ s.engine.window.length < s.params.w ∧
        s.engine.round = none ∧ s.engine.flowOwed = .none ∧ s.engine.rejectOwed = false ∧
        ¬∀ q, (s.port q).queue = [] := by
  simp [State.mayArbitrate, State.atBoundary, Engine.noFlowOrReject_iff, State.someQueued_iff, and_assoc]

theorem State.mayResend_iff :
    s.mayResend = true ↔
      s.framer.tx = .idle ∧ s.link.state = .up ∧ s.engine.peerHalted = false ∧ s.engine.round ≠ none ∧
        s.engine.window ≠ [] ∧ s.engine.flowOwed = .none ∧ s.engine.rejectOwed = false := by
  simp [State.mayResend, State.atBoundary, Engine.noFlowOrReject_iff, and_assoc, Option.isSome_iff_ne_none]

/-- Nothing of rank 1 to 4 may start in UP (R101). -/
def State.NoData (s : State) : Prop :=
  s.engine.flowOwed = .none ∧ s.engine.rejectOwed = false ∧
    (s.engine.round = none ∨ s.engine.peerHalted = true ∨ s.engine.window = []) ∧
    (s.engine.peerHalted = true ∨ s.engine.round ≠ none ∨ s.params.w ≤ s.engine.window.length ∨
      ∀ q, (s.port q).queue = [])

theorem State.noData_iff (htx : s.framer.tx = .idle) (hup : s.link.state = .up) :
    s.NoData ↔ s.engine.noFlowOrReject = true ∧ s.mayResend = false ∧ s.mayArbitrate = false := by
  rw [← Bool.not_eq_true s.mayResend, ← Bool.not_eq_true s.mayArbitrate, State.mayResend_iff, State.mayArbitrate_iff,
    Engine.noFlowOrReject_iff, State.NoData, ← Bool.not_eq_true s.engine.peerHalted]
  constructor
  · rintro ⟨hflow, hreject, hround, hdata⟩
    refine ⟨⟨hflow, hreject⟩, ?_, ?_⟩
    · rintro ⟨-, -, hhalted, hrounds, hwindow, -, -⟩
      tauto
    · rintro ⟨-, -, hhalted, hroom, hrounds, -, -, hqueued⟩
      obtain h | h | h | h := hdata
      · exact hhalted h
      · exact h hrounds
      · omega
      · exact hqueued h
  · rintro ⟨⟨hflow, hreject⟩, hresend, harbitrate⟩
    refine ⟨hflow, hreject, ?_, ?_⟩
    · tauto
    · by_contra hnone
      push Not at hnone
      obtain ⟨hhalted, hround, hroom, hqueued⟩ := hnone
      exact harbitrate ⟨htx, hup, hhalted, hroom, hround, hflow, hreject, not_forall.mpr hqueued⟩

theorem State.mayAck_iff :
    s.mayAck = true ↔
      s.framer.tx = .idle ∧ s.link.state = .up ∧ s.NoData ∧ s.engine.ackOwed = true ∧ s.engine.ackDelay = .expired := by
  have hsplit : s.mayAck = true ↔ s.framer.tx = .idle ∧ s.link.state = .up ∧
      (s.engine.noFlowOrReject = true ∧ s.mayResend = false ∧ s.mayArbitrate = false) ∧ s.engine.ackOwed = true ∧
      s.engine.ackDelay = .expired := by
    simp [State.mayAck, State.atBoundary, and_assoc]
  rw [hsplit]
  refine and_congr_right fun htx => and_congr_right fun hup => ?_
  rw [State.noData_iff htx hup]

theorem State.mayHello_iff :
    s.mayHello = true ↔
      s.framer.tx = .idle ∧ s.link.helloDue = true ∧
        (s.link.state = .seeking ∨ s.link.state = .confirming ∨
          (s.link.state = .up ∧ s.NoData ∧ ¬(s.engine.ackOwed = true ∧ s.engine.ackDelay = .expired))) := by
  unfold State.mayHello State.atBoundary
  cases hlink : s.link.state with
  | up =>
    have hack := s.mayAck_iff
    simp only [Bool.and_eq_true, beq_iff_eq, and_assoc, reduceCtorEq, false_or, true_and]
    refine and_congr_right fun htx => and_congr_right fun _ => ?_
    rw [State.noData_iff htx hlink]
    rw [State.noData_iff htx hlink] at hack
    cases hmay : s.mayAck <;> simp_all
  | _ => simp

/-! ### Starting and not starting -/

/-- An event of the trunk that leaves the state, or that RESET stops. -/
theorem State.trunkEvent_still {act : State → State} (h : s.resetAsserted = true ∨ act s = s) :
    s.trunkEvent act = s := by
  cases hreset : s.resetAsserted with
  | true => exact State.trunkEvent_reset hreset act
  | false => exact (State.trunkEvent_live hreset act).trans (h.resolve_left (by simp [hreset]))

/-- The start of a frame other than HELLO in UP (R65, R76, R102). -/
theorem State.startFrame_of_up (hup : s.link.state = .up) {k : FrameType} (hk : k ≠ .hello) (l : List Byte) :
    s.startFrame k l =
      { s with
        framer := { s.framer with tx := .sending { kind := k, octets := l, held := none } }
        link := { s.link with helloDue := false, helloTimer := .stopped }
        engine := { s.engine with ackOwed := false, ackDelay := .stopped } } := by
  unfold State.startFrame
  rw [if_pos hup, if_neg hk]

/-- The state in which a short frame has started in UP: its octets fixed, and a HELLO and an acknowledgement no longer
owed (R65, R76, R102). -/
def State.shortSent (s : State) (kind : FrameType) (code : BitVec 4) (e : Engine) : State :=
  { s with
    framer := { s.framer with tx := .sending { kind := kind, octets := shortOctets code s.engine.vr, held := none } }
    link := { s.link with helloDue := false, helloTimer := .stopped }
    engine := { e with ackOwed := false, ackDelay := .stopped } }

theorem State.flowSend_of_turn {which : FlowFrame} {kind : FrameType} (hk : kind ≠ .hello) (code : BitVec 4)
    (htx : s.framer.tx = .idle) (hup : s.link.state = .up) (hflow : s.engine.flowOwed = which) :
    s.flowSend which kind code = s.shortSent kind code { s.engine with flowOwed := .none } := by
  unfold State.flowSend
  rw [if_pos ⟨by simp [State.atBoundary, htx], hup, hflow⟩]
  exact State.startFrame_of_up (s := { s with engine := { s.engine with flowOwed := .none } }) hup hk _

theorem State.flowSend_of_not_turn {which : FlowFrame} (kind : FrameType) (code : BitVec 4)
    (h : ¬(s.framer.tx = .idle ∧ s.link.state = .up) ∨ s.engine.flowOwed ≠ which) : s.flowSend which kind code = s := by
  refine if_neg ?_
  simp only [State.atBoundary, beq_iff_eq]
  tauto

theorem State.rejectSend_of_turn (htx : s.framer.tx = .idle) (hup : s.link.state = .up)
    (hflow : s.engine.flowOwed = .none) (hreject : s.engine.rejectOwed = true) :
    s.rejectSend = s.shortSent .reject 0x3#4 { s.engine with rejectOwed := false } := by
  unfold State.rejectSend
  rw [if_pos ⟨by simp [State.atBoundary, htx], hup, hflow, hreject⟩]
  exact State.startFrame_of_up (s := { s with engine := { s.engine with rejectOwed := false } }) hup (by decide) _

theorem State.rejectSend_of_not_turn
    (h : ¬(s.framer.tx = .idle ∧ s.link.state = .up) ∨ s.engine.flowOwed ≠ .none ∨ s.engine.rejectOwed = false) :
    s.rejectSend = s := by
  refine if_neg ?_
  simp only [State.atBoundary, beq_iff_eq]
  rw [← Bool.not_eq_true] at h
  tauto

theorem State.ackSend_of_turn (htx : s.framer.tx = .idle) (hup : s.link.state = .up) (hdata : s.NoData)
    (hdue : s.engine.ackOwed = true ∧ s.engine.ackDelay = .expired) : s.ackSend = s.shortSent .ack 0x2#4 s.engine := by
  unfold State.ackSend
  rw [if_pos (State.mayAck_iff.mpr ⟨htx, hup, hdata, hdue⟩)]
  exact State.startFrame_of_up hup (by decide) _

theorem State.ackSend_of_not_turn
    (h : ¬(s.framer.tx = .idle ∧ s.link.state = .up) ∨ ¬s.NoData ∨
      ¬(s.engine.ackOwed = true ∧ s.engine.ackDelay = .expired)) : s.ackSend = s := by
  refine if_neg ?_
  rw [State.mayAck_iff]
  tauto

end

/-- Settles O48: each short frame starts by its conditions alone. -/
theorem shortFrames : Obligations.ShortFrames := by
  intro s idleUp sent noData ackDue helloTurn
  have still {act : State → State} (h : s.resetAsserted = true ∨ act s = s) :
      Host.Outcome.next (s.trunkEvent act) = (.next s : Host.Outcome State Fault Refusal) :=
    congrArg _ (State.trunkEvent_still h)
  have live {act : State → State} {t : State} (hreset : s.resetAsserted = false) (h : act s = t) :
      Host.Outcome.next (s.trunkEvent act) = (.next t : Host.Outcome State Fault Refusal) :=
    congrArg _ ((State.trunkEvent_live hreset act).trans h)
  have off : ¬idleUp → s.resetAsserted = true ∨ ¬(s.framer.tx = .idle ∧ s.link.state = .up) := fun h => by
    cases hreset : s.resetAsserted with
    | true => exact .inl rfl
    | false => exact .inr fun hidle => h ⟨hreset, hidle⟩
  refine ⟨?_, ?_, ?_, ?_, ?_, ?_, ?_, ?_, ?_, ?_⟩
  · rintro ⟨hreset, htx, hup⟩ hflow
    exact live hreset (State.flowSend_of_turn (by decide) _ htx hup hflow)
  · rintro ⟨hreset, htx, hup⟩ hflow
    exact live hreset (State.flowSend_of_turn (by decide) _ htx hup hflow)
  · rintro ⟨hreset, htx, hup⟩ hflow hreject
    exact live hreset (State.rejectSend_of_turn htx hup hflow hreject)
  · rintro ⟨hreset, htx, hup⟩ hdata hdue
    exact live hreset (State.ackSend_of_turn htx hup hdata hdue)
  · rintro (hidle | hflow)
    · exact still ((off hidle).imp_right fun h => State.flowSend_of_not_turn _ _ (.inl h))
    · exact still (.inr (State.flowSend_of_not_turn _ _ (.inr hflow)))
  · rintro (hidle | hflow)
    · exact still ((off hidle).imp_right fun h => State.flowSend_of_not_turn _ _ (.inl h))
    · exact still (.inr (State.flowSend_of_not_turn _ _ (.inr hflow)))
  · rintro (hidle | howed)
    · exact still ((off hidle).imp_right fun h => State.rejectSend_of_not_turn (.inl h))
    · exact still (.inr (State.rejectSend_of_not_turn (.inr howed)))
  · rintro (hidle | hdue)
    · exact still ((off hidle).imp_right fun h => State.ackSend_of_not_turn (.inl h))
    · exact still (.inr (State.ackSend_of_not_turn (.inr hdue)))
  · intro h
    refine still (h.imp_right fun h => if_neg ?_)
    rw [State.mayHello_iff]
    rintro ⟨htx, hdue, hturn⟩
    obtain h | h | h := h
    · exact h htx
    · simp [hdue] at h
    · exact h hturn
  · intro hreset htx hdue hturn
    refine live hreset ((if_pos (State.mayHello_iff.mpr ⟨htx, hdue, hturn⟩)).trans ?_)
    obtain h | h | ⟨h, -⟩ := hturn <;>
      simp [State.startFrame, h, helloOctets, Params.stationOctet, octet]

end Sys2Proof.Machine
end

section
/-! SUPPORT. Arbitration, the round and the end of a transmission. -/

namespace Sys2Proof.Machine

section
variable {s : State}

/-! ### An arbitration -/

/-- The window entry of a frame that has won an arbitration (R48). -/
def State.entryOf (s : State) (w : Port) (f : Frame) : WindowEntry :=
  { seq := s.engine.vs, frame := { f with state := .inWindow }, owner := w, retry := 0, orphan := false, onLine := true }

theorem State.admitToWindow_eq {w : Port} {f : Frame} {rest : List Frame} (hqueue : (s.port w).queue = f :: rest)
    (hup : s.link.state = .up) :
    s.admitToWindow w =
      { s with
        ports := (s.modPort w fun ps => { ps with queue := rest }).ports
        framer :=
          { s.framer with
            tx := .sending { kind := .data, octets := dataOctets f s.engine.vs s.engine.vr, held := none } }
        link := { s.link with helloDue := false, helloTimer := .stopped }
        engine :=
          { s.engine with
            window := s.engine.window ++ [s.entryOf w f], vs := s.engine.vs + 1, ackTimer := s.ackTimerOnEntry
            ackOwed := false, ackDelay := .stopped } } := by
  unfold State.admitToWindow
  rw [hqueue]
  exact State.startFrame_of_up (by exact hup) (by decide) _

theorem State.port_deferTo (w q : Port) :
    (s.deferTo w).port q = { s.port q with deferred := (q == w) && s.contested w } := by
  unfold State.deferTo State.port
  rw [PerPort.get_set]
  by_cases h : q = w <;> simp [h]

theorem State.port_admitToWindow {w : Port} {f : Frame} {rest : List Frame} (hqueue : (s.port w).queue = f :: rest)
    (hup : s.link.state = .up) (q : Port) :
    (s.admitToWindow w).port q = { s.port q with queue := if q = w then rest else (s.port q).queue } := by
  have hports : (s.admitToWindow w).port q = (s.modPort w fun ps => { ps with queue := rest }).port q := by
    rw [State.admitToWindow_eq hqueue hup]
    rfl
  rw [hports, State.port_modPort]
  by_cases h : q = w <;> simp [h]

theorem State.arbitrate_of_turn {w : Port} (h : s.mayArbitrate = true) (hw : s.winner = some w) :
    s.arbitrate = (s.deferTo w).admitToWindow w := by
  unfold State.arbitrate
  rw [if_pos h, hw]

end

/-- Settles O46: the conditions of R45 decide, and the winner's head frame joins the window. -/
theorem arbitration : Obligations.Arbitration := by
  intro s w q f rest
  constructor
  · intro h
    refine congrArg Host.Outcome.next (State.trunkEvent_still (h.imp_right fun h => if_neg ?_))
    rw [State.mayArbitrate_iff]
    rintro ⟨htx, hup, hhalted, hroom, hround, hflow, hreject, hqueued⟩
    simp [htx, hup, hhalted, hround, hflow, hreject] at h
    obtain h | h := h
    · omega
    · exact hqueued h
  · intro hreset htx hup hhalted hroom hround hflow hreject hw hqueue
    have hqueued : ¬∀ r, (s.port r).queue = [] := fun h => by simp [h w] at hqueue
    have hmay : s.mayArbitrate = true :=
      State.mayArbitrate_iff.mpr ⟨htx, hup, hhalted, hroom, hround, hflow, hreject, hqueued⟩
    have hdeferred : ((s.deferTo w).port w).queue = f :: rest := by
      rw [State.port_deferTo]
      exact hqueue
    have harbitrate : exec .arbitration s = .next ((s.deferTo w).admitToWindow w) :=
      congrArg Host.Outcome.next
        ((State.trunkEvent_live hreset _).trans (State.arbitrate_of_turn hmay hw))
    refine ⟨_, harbitrate, ?_, ?_⟩
    · rw [State.port_admitToWindow hdeferred hup, State.port_deferTo]
      rfl
    · rw [State.admitToWindow_eq hdeferred hup]
      rfl

section
variable {s : State}

/-! ### A round -/

theorem State.roundSend_of_turn {r : Round} {x : WindowEntry} (h : s.mayResend = true) (hr : s.engine.round = some r)
    (hx : (s.engine.window.find? (·.seq == r.next)).or s.engine.window.head? = some x) :
    s.roundSend = s.resendEntry r x := by
  have hentry : s.engine.roundEntry r = some x := by
    unfold Engine.roundEntry
    cases hfind : s.engine.window.find? (·.seq == r.next) <;> simpa [hfind] using hx
  unfold State.roundSend
  rw [if_pos h, hr]
  dsimp only
  rw [hentry]

theorem State.resendEntry_eq (hup : s.link.state = .up) (r : Round) (x : WindowEntry) :
    s.resendEntry r x =
      { s with
        framer :=
          { s.framer with
            tx := .sending { kind := .data, octets := dataOctets x.frame x.seq s.engine.vr, held := none } }
        link := { s.link with helloDue := false, helloTimer := .stopped }
        engine :=
          { s.engine with
            window := s.engine.window.map fun y => if y.seq = x.seq then { y with onLine := true } else y
            retransCount := saturatingSucc s.engine.retransCount
            round := s.engine.roundAfter r x.seq, ackOwed := false, ackDelay := .stopped } } :=
  State.startFrame_of_up (by exact hup) (by decide) _

/-! ### The end of a transmission -/

theorem State.settlePool_withLink (s : State) (l : Link) :
    State.settlePool { s with link := l } = { s.settlePool with link := l } := by
  have hjudged : State.judgePoolLow { s with link := l } = { s.judgePoolLow with link := l } := by
    unfold State.judgePoolLow
    exact (apply_ite (fun t : State => { t with link := l })
      (s.sharedFree < s.params.poolLow ∧ s.pool.level = .atOrAbove) ((s.raiseAll .poolLow).recordLevel) s.recordLevel).symm
  have hresumed (t : State) : State.resumePeer { t with link := l } = { t.resumePeer with link := l } := by
    unfold State.resumePeer
    exact (apply_ite (fun t : State => { t with link := l }) (t.engine.haltingPeer ∧ t.params.resume ≤ t.sharedFree)
      { t with engine := { t.engine with haltingPeer := false, flowOwed := .go } } t).symm
  unfold State.settlePool
  rw [hjudged, hresumed]

theorem State.freeFrame_withLink (s : State) (p : Port) (f : Frame) (l : Link) :
    State.freeFrame { s with link := l } p f = { s.freeFrame p f with link := l } :=
  State.settlePool_withLink (s.returnFrames p [f]) l

theorem State.freeFrame_eq_cellsBack (s : State) (p : Port) (f : Frame) : s.freeFrame p f = s.cellsBack p f id := by
  rw [← State.freeFrame_modPort s p f fun _ _ => rfl]
  congr 1
  exact (State.modPort_id s p).symm

/-- The line idle, the transmission closed by a marker and no window entry on it (R65, R94). -/
def State.lineIdled (s : State) : State :=
  { s with
    framer := { s.framer with tx := .idle, closing := [Config.marker] }
    engine := { s.engine with window := s.engine.window.map fun e => { e with onLine := false } } }

/-- The state in which the line is idle after a transmission, but for the frame held to its end (R65, R76, R94). -/
def State.lineEnded (s : State) : State :=
  { s.lineIdled with
    link := if s.link.state = .up then { s.link with helloTimer := .running s.params.tHello } else s.link }

theorem State.restartIdleTimer_eq (s : State) :
    s.restartIdleTimer =
      { s with link := if s.link.state = .up then { s.link with helloTimer := .running s.params.tHello } else s.link } := by
  unfold State.restartIdleTimer
  split <;> rfl

theorem State.endTransmission_marker {y : Transmission} (htx : s.framer.tx = .sending y) :
    s.endTransmission [Config.marker] =
      match y.held with
      | some (p, g) => s.lineIdled.freeFrame p g
      | none => s.lineIdled := by
  unfold State.endTransmission
  rw [htx]
  rfl

theorem State.transmissionEnd_of_sending {y : Transmission} (htx : s.framer.tx = .sending y) :
    s.transmissionEnd =
      match y.held with
      | some (p, g) => s.lineEnded.cellsBack p g id
      | none => s.lineEnded := by
  unfold State.transmissionEnd
  rw [htx]
  dsimp only
  rw [State.restartIdleTimer_eq, State.endTransmission_marker htx]
  cases y.held with
  | none => rfl
  | some held =>
    obtain ⟨p, g⟩ := held
    have hlink : (s.lineIdled.freeFrame p g).link = s.link := by
      rw [(s.lineIdled.freeFrame_ended (o := .acked) p g).rest]
      rfl
    have htHello : (s.lineIdled.freeFrame p g).params.tHello = s.params.tHello := by
      rw [(s.lineIdled.freeFrame_ended (o := .acked) p g).rest]
      rfl
    dsimp only
    rw [← State.freeFrame_eq_cellsBack, hlink, htHello]
    exact (State.freeFrame_withLink s.lineIdled p g _).symm

end

/-- Settles O47: the round's entry is sent again at its turn, and the end of a transmission returns what it held. -/
theorem roundAndEndOfTransmission : Obligations.RoundAndEndOfTransmission := by
  intro s r x y
  refine ⟨fun h => ?_, fun h => ?_, ?_, ?_⟩
  · refine congrArg Host.Outcome.next (State.trunkEvent_still (h.imp_right fun h => if_neg ?_))
    rw [State.mayResend_iff]
    rintro ⟨htx, hup, hhalted, hround, hwindow, hflow, hreject⟩
    simp_all
  · refine congrArg Host.Outcome.next (State.trunkEvent_still (h.imp_right fun h => ?_))
    unfold State.transmissionEnd
    rw [h]
  · intro hreset htx hup hhalted hround hflow hreject hx
    have hwindow : s.engine.window ≠ [] := by
      intro hempty
      simp [hempty] at hx
    have hmay : s.mayResend = true :=
      State.mayResend_iff.mpr ⟨htx, hup, hhalted, by simp [hround], hwindow, hflow, hreject⟩
    exact congrArg Host.Outcome.next ((State.trunkEvent_live hreset _).trans
      ((State.roundSend_of_turn hmay hround hx).trans (State.resendEntry_eq hup r x)))
  · intro hreset htx
    exact congrArg Host.Outcome.next
      ((State.trunkEvent_live hreset _).trans (State.transmissionEnd_of_sending htx))

end Sys2Proof.Machine
end

section
/-! SUPPORT. An acknowledgement, as frames that end (R95, R96). -/

namespace Sys2Proof.Machine

theorem frames_ownedOf (w : List WindowEntry) : (ownedOf w).frames = w.map (·.frame) := by
  simp [ownedOf, Owned.frames]

theorem ownedOf_append (v w : List WindowEntry) : ownedOf (v ++ w) = ownedOf v ++ ownedOf w := List.map_append ..

/-- The transmission after the entry that is on the line, if there is one, has ended (R4, R94). -/
def TxState.holding : TxState → Option WindowEntry → TxState
  | .sending x, some e => .sending { x with held := some (e.owner, e.frame) }
  | tx, _ => tx

@[simp] theorem TxState.holding_none (tx : TxState) : tx.holding none = tx := by cases tx <;> rfl

section
variable {s : State}

/-- At most one entry is on the line, and then a transmission is in progress (R94). -/
def State.LineSound (s : State) : Prop :=
  (s.engine.window.filter (·.onLine)).length ≤ 1 ∧ (s.engine.window.any (·.onLine) = true → s.framer.tx ≠ .idle)

theorem State.OnLineLaw.sound (h : s.OnLineLaw) : s.LineSound := by
  obtain ⟨hone, htx⟩ := h
  refine ⟨hone, fun hany hidle => ?_⟩
  have h := htx hany
  rw [hidle] at h
  exact h

theorem State.LineSound.tail {e : WindowEntry} {rest : List WindowEntry} {t : State} (h : s.LineSound)
    (hw : s.engine.window = e :: rest) (ht : t.engine.window = rest) (htx : s.framer.tx ≠ .idle → t.framer.tx ≠ .idle) :
    t.LineSound := by
  obtain ⟨hone, hany⟩ := h
  rw [hw] at hone hany
  rw [State.LineSound, ht]
  refine ⟨(List.Sublist.length_le ?_).trans hone, fun hrest => htx (hany ?_)⟩
  · exact (List.sublist_cons_self e rest).filter _
  · simp [hrest]

/-- Behind the entry on the line none is on the line. -/
theorem State.LineSound.rest_off {e : WindowEntry} {rest : List WindowEntry} (h : s.LineSound)
    (hw : s.engine.window = e :: rest) (he : e.onLine = true) : ∀ x ∈ rest, x.onLine = false := by
  obtain ⟨hone, -⟩ := h
  intro x hx
  by_contra hon
  have hmem : x ∈ rest.filter (·.onLine) := List.mem_filter.mpr ⟨hx, by simpa using hon⟩
  have hpos := List.length_pos_of_mem hmem
  simp only [hw, List.filter_cons, he, if_true, List.length_cons] at hone
  omega

/-- The head entry's frame ends, or is held to the end of its transmission (R4, R96). -/
theorem State.ackHead_of_cons {e : WindowEntry} {rest : List WindowEntry} (h : s.LineSound)
    (hw : s.engine.window = e :: rest) :
    Ended .acked (ownedOf ([e].filter (!·.onLine))) (ownedOf ([e].filter (!·.orphan))) false (fun _ => id) s s.ackHead ∧
      Resumed (!e.onLine) s s.ackHead ∧
      s.ackHead.framer = { s.framer with tx := s.framer.tx.holding ([e].find? (·.onLine)) } ∧
      s.ackHead.freeTick = s.freeTick ∧ s.ackHead.engine.window = rest := by
  obtain ⟨hempty, -⟩ | ⟨e', rest', hw', heq⟩ := s.ackHead_cases
  · simp [hw] at hempty
  rw [hw] at hw'
  obtain ⟨rfl, rfl⟩ := List.cons.inj hw'
  dsimp only at heq
  set left : State := { s with engine := { s.engine with window := rest } } with hleft
  set paid := if e.onLine then left.holdOnLine e.owner e.frame else left.freeFrame e.owner e.frame with hpaid
  have hcut : Ended .acked [] [] false (fun _ => id) s left := .of_ports rfl rfl rfl rfl
  have hcutResumed : Resumed false s left := .of_eq rfl rfl rfl
  have hpaidAll : Ended .acked (ownedOf ([e].filter (!·.onLine))) [] false (fun _ => id) left paid ∧
      Resumed (!e.onLine) left paid ∧
      paid.framer = { s.framer with tx := s.framer.tx.holding ([e].find? (·.onLine)) } ∧ paid.freeTick = s.freeTick ∧
      paid.engine.window = rest := by
    cases hon : e.onLine with
    | true =>
      have htx : s.framer.tx ≠ .idle := h.2 (by simp [hw, hon])
      have hheld : paid = { left with framer := { s.framer with tx := s.framer.tx.holding (some e) } } := by
        rw [hpaid, if_pos hon]
        unfold State.holdOnLine
        cases htx' : s.framer.tx with
        | idle => exact absurd htx' htx
        | sending x => simp [hleft, TxState.holding]
      rw [hheld]
      have hfind : [e].find? (·.onLine) = some e := by simp [hon]
      have hnone : [e].filter (!·.onLine) = [] := by simp [hon]
      rw [hfind, hnone]
      exact ⟨.of_ports rfl rfl rfl rfl, .of_eq rfl rfl rfl, rfl, rfl, rfl⟩
    | false =>
      have hfreed : paid = left.freeFrame e.owner e.frame := by
        rw [hpaid, hon]
        rfl
      have hkept := left.freeFrame_lineKept e.owner e.frame
      have hfind : [e].find? (·.onLine) = none := by simp [hon]
      have hsome : [e].filter (!·.onLine) = [e] := by simp [hon]
      rw [hfreed, hfind, hsome, TxState.holding_none]
      exact ⟨left.freeFrame_ended e.owner e.frame, left.freeFrame_resumed e.owner e.frame, hkept.framer, hkept.freeTick,
        hkept.window⟩
  obtain ⟨hpaidEnded, hpaidResumed, hframer, htick, hwindow⟩ := hpaidAll
  have htold : Ended .acked [] (ownedOf ([e].filter (!·.orphan))) false (fun _ => id) paid s.ackHead ∧
      Resumed false paid s.ackHead ∧ LineKept paid s.ackHead := by
    have hconverted : LineKept paid (paid.convertSlot e.owner e.frame .acked) := ⟨rfl, rfl, rfl⟩
    rw [heq]
    cases horphan : e.orphan with
    | true =>
      simp only [Bool.not_true, Bool.and_false, Bool.false_eq_true, if_false]
      have hnone : [e].filter (!·.orphan) = [] := by simp [horphan]
      rw [hnone]
      exact ⟨.refl _ _, .of_eq rfl rfl rfl, .refl _⟩
    | false =>
      simp only [Bool.not_false, Bool.and_true]
      have hsome : [e].filter (!·.orphan) = [e] := by simp [horphan]
      rw [hsome]
      exact ⟨paid.told_ended e.owner e.frame, (State.convertSlot_resumed _ _ _).ite (.of_eq rfl rfl rfl),
        hconverted.ite (.refl _)⟩
  obtain ⟨htoldEnded, htoldResumed, hkept⟩ := htold
  refine ⟨((hcut.trans hpaidEnded).trans htoldEnded).cast (by simp) (by simp) rfl rfl, ?_, ?_, ?_, ?_⟩
  · have hall := (hcutResumed.trans hpaidResumed).trans htoldResumed
    simpa using hall
  · rw [hkept.framer, hframer]
  · rw [hkept.freeTick, htick]
  · rw [hkept.window, hwindow]

/-- The first entries of the window leave it (R96). -/
theorem State.ackEntries_ended (h : s.LineSound) (k : Nat) :
    Ended .acked (ownedOf ((s.engine.window.take k).filter (!·.onLine)))
        (ownedOf ((s.engine.window.take k).filter (!·.orphan))) false (fun _ => id) s (s.ackEntries k) ∧
      Resumed ((s.engine.window.take k).any (!·.onLine)) s (s.ackEntries k) ∧
      (s.ackEntries k).framer =
        { s.framer with tx := s.framer.tx.holding ((s.engine.window.take k).find? (·.onLine)) } ∧
      (s.ackEntries k).freeTick = s.freeTick := by
  induction k generalizing s with
  | zero => exact ⟨.refl _ _, .of_eq rfl rfl rfl, by simp [State.ackEntries], rfl⟩
  | succ k ih =>
    cases hw : s.engine.window with
    | nil =>
      have hsame : s.ackHead = s := by simp [State.ackHead, hw]
      obtain ⟨hended, hresumed, hframer, htick⟩ := ih h
      simp only [hw, List.take_nil] at hended hresumed hframer
      simp only [State.ackEntries, hsame, List.take_nil]
      exact ⟨hended, hresumed, hframer, htick⟩
    | cons e rest =>
      obtain ⟨hended, hresumed, hframer, htick, hwindow⟩ := State.ackHead_of_cons h hw
      have htx : s.framer.tx ≠ .idle → s.ackHead.framer.tx ≠ .idle := by
        rw [hframer]
        cases s.framer.tx with
        | idle => exact fun h => absurd rfl h
        | sending x => cases [e].find? (·.onLine) <;> exact fun _ => nofun
      obtain ⟨hended', hresumed', hframer', htick'⟩ := ih (h.tail hw hwindow htx)
      rw [hwindow] at hended' hresumed' hframer'
      refine ⟨(hended.trans hended').cast ?_ ?_ rfl rfl, ?_, ?_, htick'.trans htick⟩
      · rw [← ownedOf_append, ← List.filter_append, List.singleton_append, List.take_succ_cons]
      · rw [← ownedOf_append, ← List.filter_append, List.singleton_append, List.take_succ_cons]
      · rw [List.take_succ_cons, List.any_cons]
        exact hresumed.trans hresumed'
      · refine hframer'.trans ?_
        rw [hframer, List.take_succ_cons]
        cases hon : e.onLine with
        | true =>
          have hnone : (rest.take k).find? (·.onLine) = none := by
            rw [List.find?_eq_none]
            intro x hx
            simp [h.rest_off hw hon x (List.mem_of_mem_take hx)]
          simp [hnone, hon]
        | false => simp [hon]

/-- After the entries have left, the ack timer restarts for a new head or stops, and a round over an emptied window ends
(R103, R105). -/
def Engine.afterAck (e : Engine) (k : Nat) (timer : Timer) : Engine :=
  { e with
    window := e.window.drop k
    ackTimer :=
      if e.window.drop k = [] then .stopped
      else if 0 < k ∧ e.peerHalted = false then timer
      else e.ackTimer
    round := if e.window.drop k = [] then none else e.round }

theorem State.acknowledge_afterAck (s : State) (n : Seq) {b : Bool}
    (h : (s.ackEntries (n - s.engine.va).toNat).engine =
      { s.engine.letGo b with window := s.engine.window.drop (n - s.engine.va).toNat }) :
    s.acknowledge n =
      { s.ackEntries (n - s.engine.va).toNat with
        engine := (s.engine.afterAck (n - s.engine.va).toNat (.running s.params.tAck)).letGo b } := by
  have hparams := s.ackEntries_params (n - s.engine.va).toNat
  unfold State.acknowledge
  dsimp only
  generalize (n - s.engine.va).toNat = k at *
  generalize s.ackEntries k = v at *
  have hwindow : v.engine.window = s.engine.window.drop k := by rw [h]
  have hhalted : v.engine.peerHalted = s.engine.peerHalted := by
    rw [h]
    unfold Engine.letGo
    split <;> rfl
  have hafter (timer : Timer) (round : Option Round)
      (hw : s.engine.afterAck k (.running s.params.tAck) =
        { s.engine with window := s.engine.window.drop k, ackTimer := timer, round := round }) :
      { v.engine with ackTimer := timer, round := round } =
        (s.engine.afterAck k (.running s.params.tAck)).letGo b := by
    rw [h, hw]
    unfold Engine.letGo
    split <;> rfl
  have hkept : v.engine.round = s.engine.round ∧ v.engine.ackTimer = s.engine.ackTimer := by
    rw [h]
    unfold Engine.letGo
    split <;> exact ⟨rfl, rfl⟩
  obtain ⟨hround, htimer⟩ := hkept
  have hset {e : Engine} (timer : Timer) (round : Option Round)
      (he : e = { v.engine with ackTimer := timer, round := round })
      (hw : s.engine.afterAck k (.running s.params.tAck) =
        { s.engine with window := s.engine.window.drop k, ackTimer := timer, round := round }) :
      { v with engine := e } =
        { v with engine := (s.engine.afterAck k (.running s.params.tAck)).letGo b } :=
    congrArg (fun e : Engine => { v with engine := e }) (he.trans (hafter timer round hw))
  by_cases hempty : s.engine.window.drop k = []
  · rw [if_pos (hwindow.trans hempty)]
    exact hset .stopped none rfl (by simp [Engine.afterAck, hempty])
  · rw [if_neg fun h => hempty (hwindow.symm.trans h)]
    by_cases hrestart : 0 < k ∧ ¬v.engine.peerHalted = true
    · rw [if_pos hrestart]
      refine hset (.running v.params.tAck) v.engine.round rfl ?_
      rw [hhalted, Bool.not_eq_true] at hrestart
      simp [Engine.afterAck, hempty, hrestart, hround, hparams]
    · rw [if_neg hrestart]
      refine hset (e := v.engine) v.engine.ackTimer v.engine.round rfl ?_
      rw [hhalted, Bool.not_eq_true] at hrestart
      simp [Engine.afterAck, hempty, hrestart, hround, htimer]

end

/-- Settles O41: entry by entry the frames end or stay held, then timer and round follow. -/
theorem acknowledgement : Obligations.Acknowledgement := by
  intro s n q
  refine ⟨fun hlaw hn => ?_, fun hclosing hvalid hup hacceptable => ?_⟩
  · intro t k gone rest off
    obtain ⟨hended, hresumed, hframer, htick⟩ := State.ackEntries_ended hlaw.sound k
    have hwindow : (s.ackEntries k).engine.window = rest := (s.ackEntries_engine k).window_eq
    have hengine := hresumed.engine
    rw [hwindow] at hengine
    have hack : t = _ := s.acknowledge_afterAck n hengine
    have hoff : (gone.any fun e => !e.onLine) = !off.isEmpty := by
      rw [Bool.eq_iff_iff]
      simp [off]
    have hport := hended.port q
    have hevents := fun hs => hended.events hs q
    rw [ownedOf_of, reported_of] at hport
    rw [reported_of] at hevents
    have hfree := hended.free
    have hcells := hended.cells
    rw [frames_ownedOf] at hfree hcells
    have hlevel := fun hs => (hended.level hs).level
    have hinbound := hended.inbound
    have hinboundCells := hended.inboundCells
    have hrest := hended.rest
    rw [hoff] at hack
    generalize s.ackEntries k = v at *
    rw [hack]
    refine ⟨by simpa [Engine.acceptable] using hn, hport, fun hs => ⟨hevents hs, hlevel hs⟩, hfree,
      hcells.trans (.of_eq (List.append_nil _)), ?_, rfl, ?_⟩
    · refine hframer.trans ?_
      unfold TxState.holding
      rfl
    · have hpool : v.pool =
          { s.pool with free := v.pool.free, freeCells := v.pool.freeCells, level := v.pool.level } := by
        generalize v.pool = pool at hinbound hinboundCells ⊢
        cases pool
        cases hinbound
        cases hinboundCells
        rfl
      rw [htick, hpool] at hrest
      generalize (s.engine.afterAck (n - s.engine.va).toNat (.running s.params.tAck)).letGo
        (!off.isEmpty && decide (s.params.resume ≤ v.sharedFree)) = e
      exact congrArg (fun t : State => { t with engine := e }) hrest
  · exact exec_closingMarker_of_acceptable hclosing (by decide) hvalid hup hacceptable

end Sys2Proof.Machine
end

section
/-! SUPPORT. The link's frames and timers (spec/05). -/

namespace Sys2Proof.Machine

/-! ### HELLO -/

/-- The closing marker of a valid HELLO hands it on (R72, R89, log 27). -/
theorem exec_hello_of_closing {s : State} (h : s.ClosingHello) :
    exec .helloFrameReceived s = .next s.atMarker.handOnHello := by
  obtain ⟨hreset, htype, hvalid, hcame⟩ := h
  have hclose : s.closeOf (some .hello) = State.closeFrame { s with framer := s.framer.clockSeen } := by
    refine if_pos ?_
    rcases hcame with hreceiving | hcut
    · exact .inl ⟨hreceiving, htype⟩
    · exact .inr ⟨rfl, by simp [Framer.helloCutOff, hcut, htype, hvalid]⟩
  have hseen : s.framer.clockSeen.type? = some .hello := htype
  refine congrArg Host.Outcome.next ((State.trunkEvent_live hreset _).trans (hclose.trans ((if_pos hvalid).trans ?_)))
  rw [hseen]
  rfl

/-- A link looped back, from SEEKING or CONFIRMING (R81, R82, R87). -/
theorem State.loopedBack_eq (s : State) :
    s.loopedBack =
      State.raiseAll
        { s.abortTransmission with
          link :=
            { s.link with
              state := .lost, lossCount := 0, heard := false, lastCause := .looped, helloTimer := .stopped
              helloDue := false, intervalTimer := .stopped, holdOffTimer := .running s.params.tHold } }
        .linkChange := by
  have hrest := (s.abortTransmission_ended (o := .linkDown)).rest
  have hlink : s.abortTransmission.link = s.link := by rw [hrest]
  have hparams : s.abortTransmission.params.tHold = s.params.tHold := by rw [hrest]
  unfold State.loopedBack State.enterLost State.setLinkState
  rw [hlink, hparams]

/-- One more confirmation, after the frame was heard (R77, R82). -/
theorem State.hear_confirm (s : State) :
    s.hear.confirm =
      let heard : State := { s with link := { s.link with confCount := s.link.confCount + 1, heard := true } }
      if s.link.confCount + 1 < s.params.nUp then heard else heard.enterUp := by
  unfold State.confirm
  exact (ite_congr (propext Nat.not_lt.symm) (fun _ => rfl) fun _ => rfl).trans (ite_not ..)

/-- Settles O34: the branches of each link state, in their order. -/
theorem helloFrames : Obligations.HelloFrames := by
  intro s h
  rw [exec_hello_of_closing h]
  refine congrArg Host.Outcome.next ?_
  have hown : (s.framer.headerOctet 2 == BitVec.ofNat 8 s.params.station) = true ↔
      s.atMarker.framer.stationField = s.atMarker.params.stationOctet := by
    rw [beq_iff_eq]
    rfl
  have hseen : s.atMarker.framer.seenField = (s.framer.headerOctet 0).getLsbD 0 := rfl
  have hlooped := s.atMarker.loopedBack_eq
  unfold State.handOnHello
  have hlink : s.atMarker.link.state = s.link.state := rfl
  rw [hlink]
  cases hstate : s.link.state with
  | off | lost => rfl
  | seeking => exact ite_congr (propext hown.symm) (fun _ => hlooped) fun _ => rfl
  | confirming =>
    unfold State.helloInConfirming
    refine ite_congr (propext hown.symm) (fun _ => hlooped) fun _ => ?_
    refine ite_congr rfl (fun _ => rfl) fun _ => ?_
    refine ite_congr ?_ (fun _ => rfl) fun _ => s.atMarker.hear_confirm
    rw [hseen, Bool.not_eq_true]
  | up =>
    unfold State.helloInUp
    refine ite_congr (propext hown.symm) (fun _ => rfl) fun _ => ?_
    refine ite_congr ?_ (fun _ => rfl) fun _ => ?_
    · rw [hseen, Bool.not_eq_true]
    · exact ite_congr rfl (fun _ => rfl) fun _ => rfl

/-! ### Other frames outside UP -/

/-- Where nothing is in the inbound account and nothing is stored, there is nothing to release (R10). -/
theorem State.releaseInbound_of_empty {s : State} (hinbound : s.pool.inbound = 0) (hcells : s.pool.inboundCells = [])
    (hstored : s.framer.stored = []) : s.releaseInbound = s := by
  obtain ⟨-, h⟩ | ⟨hsome, -⟩ := s.releaseInbound_cases
  · have hpool : { s.pool with
        free := s.pool.free + s.pool.inbound, inbound := 0, freeCells := s.pool.freeCells ++ s.pool.inboundCells
        inboundCells := [] } = s.pool := by
      generalize s.pool = pool at hinbound hcells ⊢
      cases pool
      cases hinbound
      cases hcells
      simp
    have hframer : { s.framer with stored := [] } = s.framer := by rw [← hstored]
    rw [h, hpool, hframer]
  · exact absurd hinbound hsome

/-- Settles O35: a frame that holds no cells leaves nothing but its confirmation, and entry into UP is as R84 has it. -/
theorem confirmationAndEntryIntoUp : Obligations.ConfirmationAndEntryIntoUp := by
  intro s k
  refine ⟨fun hclosing hhello hvalid hinbound hcells hstored hup => ?_, rfl⟩
  rw [exec_closingMarker_of_valid hclosing hhello hvalid]
  refine congrArg Host.Outcome.next ?_
  have hreleased : s.atMarker.releaseInbound = s.atMarker := State.releaseInbound_of_empty hinbound hcells hstored
  have hlink : s.atMarker.link.state = s.link.state := rfl
  rw [State.handOnFrame, hlink, hreleased]
  cases hstate : s.link.state with
  | up => exact absurd hstate hup
  | confirming =>
    rw [if_pos rfl]
    exact s.atMarker.hear_confirm
  | off | seeking | lost => rfl

/-! ### A silent line -/

/-- The part when a running watch has reported a silent line: the receiver hunts, and the frame in reception has been cut
off (R71, R73). -/
def State.silent (s : State) : State :=
  let hunting : State :=
    { s with
      framer := { s.framer with rxState := .hunting, watch := .reported, cut := s.framer.rxState == .receiving } }
  let returned : State :=
    { hunting with
      framer := { hunting.framer with stored := [] }
      pool :=
        { s.pool with
          free := s.pool.free + s.pool.inbound, inbound := 0
          freeCells := s.pool.freeCells ++ s.pool.inboundCells, inboundCells := [] } }
  if s.framer.rxState ≠ .receiving then hunting
  else if s.pool.inbound = 0 then returned
  else returned.settlePool

theorem State.cutOff_hunting (s : State) :
    { s.cutOff .hunting with
      framer :=
        { (s.cutOff .hunting).framer with
          rxState := .hunting, watch := .reported, cut := s.framer.rxState == .receiving } } = s.silent := by
  unfold State.silent
  dsimp only
  obtain ⟨hidle, h⟩ | ⟨hreceiving, h⟩ := s.cutOff_cases .hunting
  · rw [h, if_pos hidle]
  · rw [h, if_neg (not_not_intro hreceiving)]
    obtain ⟨hnone, h⟩ | ⟨hsome, h⟩ := s.releaseInbound_cases
    · rw [h, if_pos hnone]
    · rw [h, if_neg hsome]
      dsimp only
      rw [State.settlePool_framer]
      exact (State.settlePool_withFramer ..).symm

theorem State.silent_kept (s : State) :
    s.silent.link = s.link ∧ s.silent.params = s.params ∧ s.silent.resetAsserted = s.resetAsserted := by
  unfold State.silent
  dsimp only
  split_ifs <;> simp

theorem State.silent_framer (s : State) :
    s.silent.framer =
      { s.framer with
        rxState := .hunting, watch := .reported, cut := s.framer.rxState == .receiving
        stored := if s.framer.rxState = .receiving then [] else s.framer.stored } := by
  unfold State.silent
  dsimp only
  by_cases h : s.framer.rxState = .receiving
  · rw [if_neg (not_not_intro h), if_pos h]
    split_ifs <;> simp
  · rw [if_pos h, if_neg h]

theorem State.silence_of_running {s : State} (h : s.framer.watch = .running) :
    s.silence =
      if s.link.state = .up then s.silent.leaveUp .silent
      else if s.link.state = .confirming then s.silent.enterSeeking
      else s.silent := by
  unfold State.silence
  have hlink : (s.cutOff .hunting).link = s.link := (congrArg State.link s.cutOff_hunting).trans s.silent_kept.1
  rw [if_pos h]
  dsimp only
  rw [State.cutOff_hunting, hlink]
  cases s.link.state <;> rfl

theorem State.silence_of_not_running {s : State} (h : s.framer.watch ≠ .running) : s.silence = s := if_neg h

/-- The link part of entry into SEEKING (R76 to R79, R83, R87). -/
theorem State.enterSeeking_eq (s : State) :
    s.enterSeeking =
      State.raiseAll
        { s with
          link :=
            { s.link with
              state := .seeking, confCount := 0, lossCount := 0, heard := false, helloDue := true
              helloTimer := .running s.params.tHello, intervalTimer := .stopped, holdOffTimer := .stopped } }
        .linkChange := rfl

theorem State.after_eq {s t : State} {c : Instr} (h : exec c s = .next t) : s.after c = t := by
  unfold State.after
  rw [h]

theorem exec_silentLine {s : State} (hreset : s.resetAsserted = false) : exec .silentLine s = .next s.silence :=
  congrArg Host.Outcome.next (State.trunkEvent_live hreset _)

/-- A HELLO from another station in SEEKING (R81). -/
theorem exec_hello_of_seeking {s : State} (h : s.ClosingHello) (hseeking : s.link.state = .seeking)
    (hother : s.framer.headerOctet 2 ≠ BitVec.ofNat 8 s.params.station) :
    exec .helloFrameReceived s = .next (s.atMarker.enterConfirming (s.framer.headerOctet 2)) := by
  rw [exec_hello_of_closing h]
  have hlink : s.atMarker.link.state = .seeking := hseeking
  have hnot : s.atMarker.framer.stationField ≠ s.atMarker.params.stationOctet := hother
  rw [State.handOnHello, hlink]
  exact congrArg Host.Outcome.next (if_neg hnot)

/-- Settles O33: the two events by their definitions, and a HELLO that comes with the silence in either order. -/
theorem haltTimeoutAndSilence : Obligations.HaltTimeoutAndSilence := by
  intro s n hreset
  refine ⟨fun htimer => ?_, fun hwatch => ?_, fun hwatch => ?_, fun hwatch hclosing hvalid hseeking hother => ?_⟩
  · refine congrArg Host.Outcome.next ((State.trunkEvent_live hreset _).trans ?_)
    unfold State.haltTimerExpiry
    rw [htimer]
  · rw [exec_silentLine hreset, State.silence_of_not_running hwatch]
  · obtain ⟨hlink, hparams, -⟩ := s.silent_kept
    rw [exec_silentLine hreset, State.silence_of_running hwatch]
    refine congrArg Host.Outcome.next ?_
    have hsilent := s.silent.enterSeeking_eq
    have htHello : s.silent.params.tHello = s.params.tHello := by rw [hparams]
    rw [hlink, htHello] at hsilent
    exact ite_congr rfl (fun _ => rfl) fun _ => ite_congr rfl (fun _ => hsilent) fun _ => rfl
  · obtain ⟨hlink, hparams, hreset'⟩ := s.silent_kept
    have hhello : s.ClosingHello := ⟨hreset, hclosing.2.2, hvalid, .inl hclosing.2.1⟩
    have hsilence : s.after .silentLine = s.silent := by
      refine State.after_eq ((exec_silentLine hreset).trans ?_)
      rw [State.silence_of_running hwatch, hseeking]
      rfl
    have hcutOff : s.silent.ClosingHello := by
      obtain ⟨-, hreceiving, htype⟩ := hclosing
      refine ⟨hreset'.trans hreset, ?_, ?_, .inr ?_⟩
      · rw [s.silent_framer]
        exact htype
      · rw [s.silent_framer]
        exact hvalid
      · rw [s.silent_framer]
        simp [hreceiving]
    have hheard : s.after .helloFrameReceived = s.atMarker.enterConfirming (s.framer.headerOctet 2) :=
      State.after_eq (exec_hello_of_seeking hhello hseeking hother)
    refine ⟨?_, ?_, ?_⟩
    · rw [hsilence, hlink]
      exact hseeking
    · have hother' : s.silent.framer.headerOctet 2 ≠ BitVec.ofNat 8 s.silent.params.station := by
        rw [s.silent_framer, hparams]
        exact hother
      rw [hsilence, State.after_eq (exec_hello_of_seeking hcutOff ((congrArg Link.state hlink).trans hseeking) hother')]
      rfl
    · have hwatch' : (s.atMarker.enterConfirming (s.framer.headerOctet 2)).framer.watch = .running := by
        show (if s.framer.watch = .reported then .running else s.framer.watch) = Watch.running
        simp [hwatch]
      have hreset'' : (s.atMarker.enterConfirming (s.framer.headerOctet 2)).resetAsserted = false := hreset
      rw [hheard, State.after_eq (exec_silentLine hreset''), State.silence_of_running hwatch']
      rfl

end Sys2Proof.Machine
end

section
/-! SUPPORT. The link's timers, and the receiver outside frames. -/

namespace Sys2Proof.Machine

/-! ### The link's timers -/

theorem State.leaveUp_framer (s : State) (cause : LossCause) :
    (s.leaveUp cause).framer =
      { s.framer with
        tx := .idle, closing := s.abortTransmission.framer.closing
        rxState := if s.framer.rxState == .receiving then .discarding else s.framer.rxState
        stored := if s.framer.rxState == .receiving then [] else s.framer.stored } := by
  rw [State.leaveUp_eq]
  exact (s.broughtBack.drained_line.1).trans s.broughtBack_line.1

theorem State.leaveUp_resetAsserted (s : State) (cause : LossCause) :
    (s.leaveUp cause).resetAsserted = s.resetAsserted := by
  have hlost (t : State) : (t.lostFrom s cause).resetAsserted = t.resetAsserted := rfl
  rw [State.leaveUp_eq, hlost, s.left_ended.rest]

theorem State.leaveUp_link (s : State) (cause : LossCause) :
    (s.leaveUp cause).link.state = .lost ∧ (s.leaveUp cause).link.lastCause = cause := by
  have hlost (t : State) : (t.lostFrom s cause).link.state = .lost ∧ (t.lostFrom s cause).link.lastCause = cause :=
    ⟨rfl, rfl⟩
  rw [State.leaveUp_eq]
  exact hlost _

/-- The interval timer started again (R77). -/
def State.intervalAgain (s : State) : State :=
  { s with link := { s.link with intervalTimer := .running s.params.tHello } }

theorem State.intervalExpiry_of_heard {s : State} {n : Nat} (htimer : s.link.intervalTimer = .running n)
    (hheard : s.link.heard = true) :
    s.intervalExpiry =
      { s.intervalAgain with link := { s.intervalAgain.link with heard := false, lossCount := 0 } } := by
  unfold State.intervalExpiry
  rw [htimer]
  exact if_pos hheard

theorem State.intervalExpiry_of_missed {s : State} {n : Nat} (htimer : s.link.intervalTimer = .running n)
    (hheard : s.link.heard = false) : s.intervalExpiry = s.intervalAgain.missedInterval := by
  unfold State.intervalExpiry
  rw [htimer]
  exact if_neg (ne_true_of_eq_false hheard)

theorem State.missedInterval_of_up {s : State} (hup : s.link.state = .up) :
    s.missedInterval =
      let missed : State := { s with link := { s.link with lossCount := s.link.lossCount + 1 } }
      if s.link.lossCount + 1 < s.params.nLoss then missed else missed.leaveUp .helloTimeout := by
  unfold State.missedInterval
  rw [hup]
  exact (ite_congr (propext Nat.not_lt.symm) (fun _ => rfl) fun _ => rfl).trans (ite_not ..)

theorem State.missedInterval_of_confirming {s : State} (hconfirming : s.link.state = .confirming) :
    s.missedInterval =
      let missed : State := { s with link := { s.link with lossCount := s.link.lossCount + 1 } }
      if s.link.lossCount + 1 < s.params.nLoss then missed else missed.enterSeeking := by
  unfold State.missedInterval
  rw [hconfirming]
  exact (ite_congr (propext Nat.not_lt.symm) (fun _ => rfl) fun _ => rfl).trans (ite_not ..)

theorem exec_intervalTimer {s : State} (hreset : s.resetAsserted = false) :
    exec .intervalTimerExpiry s = .next s.intervalExpiry :=
  congrArg Host.Outcome.next (State.trunkEvent_live hreset _)

/-- The closing marker of a frame that was given up before it ends DISCARDING (R71, log 12). -/
theorem exec_closingMarker_of_discarding {s : State} (hreset : s.resetAsserted = false) (k : Option FrameType)
    (hrx : s.framer.rxState = .discarding) (hcut : s.framer.cut = false) :
    exec (closingMarker k) s =
      .next
        { s with
          framer :=
            { s.framer with
              rxState := .between
              watch := if s.framer.watch = .reported then .running else s.framer.watch } } := by
  rw [exec_closingMarker, State.trunkEvent_live hreset, State.closeOf, if_neg (by simp [hrx, Framer.helloCutOff, hcut]),
    State.markerFound, hrx]
  dsimp only
  rw [Framer.clockSeen, ← hcut]

theorem State.ackHead_resetAsserted (s : State) : s.ackHead.resetAsserted = s.resetAsserted := by
  obtain ⟨-, h⟩ | ⟨e, rest, -, h⟩ := s.ackHead_cases
  · rw [h]
  · rw [h]
    split_ifs <;> simp

theorem State.acknowledge_resetAsserted (s : State) (n : Seq) : (s.acknowledge n).resetAsserted = s.resetAsserted := by
  have hentries (k : Nat) : ∀ t : State, (t.ackEntries k).resetAsserted = t.resetAsserted := by
    induction k with
    | zero => exact fun _ => rfl
    | succ k ih => exact fun t => (ih t.ackHead).trans t.ackHead_resetAsserted
  obtain ⟨timer, round, h⟩ := s.acknowledge_cases n
  rw [h]
  exact hentries _ s

/-- Settles O36: each expiry by its definition; the expiry that loses UP leaves the receiver DISCARDING. -/
theorem linkTimers : Obligations.LinkTimers := by
  intro s n k seeking again missed hreset
  refine ⟨fun htimer => ?_, fun htimer hheard => ?_, fun htimer hheard hstate => ?_, fun htimer hlost => ?_, ?_⟩
  · refine congrArg Host.Outcome.next ((State.trunkEvent_live hreset _).trans ?_)
    unfold State.helloExpiry
    rw [htimer]
  · rw [exec_intervalTimer hreset, State.intervalExpiry_of_heard htimer hheard]
    rfl
  · rw [exec_intervalTimer hreset, State.intervalExpiry_of_missed htimer hheard]
    refine congrArg Host.Outcome.next ?_
    obtain hconfirming | hup := hstate
    · rw [State.missedInterval_of_confirming (by exact hconfirming)]
      exact ite_congr rfl (fun _ => rfl) fun _ => (if_pos hconfirming).symm
    · have hnot : s.link.state ≠ .confirming := by simp [hup]
      rw [State.missedInterval_of_up (by exact hup)]
      exact ite_congr rfl (fun _ => rfl) fun _ => (if_neg hnot).symm
  · refine congrArg Host.Outcome.next ((State.trunkEvent_live hreset _).trans ?_)
    unfold State.holdOffExpiry
    rw [htimer]
    exact if_pos hlost
  · intro hlaw hclosing hup htimer hheard hcount lost
    have hlost : lost = missed.leaveUp .helloTimeout := by
      refine State.after_eq ((exec_intervalTimer hreset).trans ?_)
      rw [State.intervalExpiry_of_missed htimer hheard, State.missedInterval_of_up (by exact hup)]
      exact congrArg Host.Outcome.next (if_neg (by exact not_lt.mpr hcount))
    have hreceiving : s.framer.rxState = .receiving := hclosing.2.1
    have hcut : s.framer.cut = false := by
      by_contra hcut
      obtain ⟨-, -, hhunting⟩ := hlaw
      have h := hhunting (by simpa using hcut)
      rw [hreceiving] at h
      exact absurd h (by decide)
    have hframer := missed.leaveUp_framer .helloTimeout
    have hreset' := missed.leaveUp_resetAsserted .helloTimeout
    obtain ⟨hstate, hcause⟩ := missed.leaveUp_link .helloTimeout
    rw [← hlost] at hframer hreset' hstate hcause
    clear_value lost
    have hrx : lost.framer.rxState = .discarding := by
      rw [hframer]
      exact if_pos (by simp [missed, again, hreceiving])
    have hcut' : lost.framer.cut = false := by
      rw [hframer]
      exact hcut
    have hwatch : lost.framer.watch = s.framer.watch := by rw [hframer]
    refine ⟨hstate, hcause, ?_, ?_⟩
    · rw [exec_closingMarker_of_discarding (hreset'.trans hreset) k hrx hcut', hwatch]
    · rintro rfl hvalid hacceptable
      have hacked : s.after .ackFrameReceived = s.heardAndAcknowledged :=
        State.after_eq (exec_closingMarker_of_acceptable hclosing (by decide) hvalid hup hacceptable)
      have hlink : s.heardAndAcknowledged.link = { s.link with heard := true } := State.acknowledge_link _ _
      have hstill : s.heardAndAcknowledged.resetAsserted = false := (State.acknowledge_resetAsserted _ _).trans hreset
      have hexpired : (s.after .ackFrameReceived).after .intervalTimerExpiry = s.heardAndAcknowledged.intervalExpiry := by
        rw [hacked]
        exact State.after_eq (exec_intervalTimer hstill)
      have htimer' : s.heardAndAcknowledged.link.intervalTimer = .running n := by rw [hlink, ← htimer]
      have hheard' : s.heardAndAcknowledged.link.heard = true := by rw [hlink]
      have hup' : s.heardAndAcknowledged.link.state = .up := by rw [hlink, ← hup]
      dsimp only
      rw [hexpired, State.intervalExpiry_of_heard htimer' hheard']
      exact ⟨hup', rfl, rfl⟩

end Sys2Proof.Machine
end

section
/-! SUPPORT. The receiver outside frames, and the over-length frame (R58, R59, R67, R71, R73). -/

namespace Sys2Proof.Machine

section
variable {s : State}

theorem exec_rxFrameOctet (hreset : s.resetAsserted = false) (o : Byte) :
    exec (.rxFrameOctet o) s = .next (s.lineOctet o) :=
  congrArg Host.Outcome.next (State.trunkEvent_live hreset _)

/-- A row of a closing marker where its frame is not closed (log 5, log 12). -/
theorem exec_closingMarker_elsewhere (hreset : s.resetAsserted = false) {k : Option FrameType}
    (hother : s.framer.rxState = .receiving → s.framer.type? ≠ k) (hhello : k = some .hello → ¬s.ClosingHello) :
    exec (closingMarker k) s = .next s.markerFound := by
  rw [exec_closingMarker, State.trunkEvent_live hreset]
  refine congrArg Host.Outcome.next (if_neg ?_)
  rintro (⟨hreceiving, htype⟩ | ⟨rfl, hcut⟩)
  · exact hother hreceiving htype
  · obtain ⟨⟨hcut, htype⟩, hvalid⟩ : (s.framer.cut = true ∧ s.framer.type? = some .hello) ∧ s.framer.valid = true := by
      simpa [Framer.helloCutOff] using hcut
    exact hhello rfl ⟨hreset, htype, hvalid, .inr hcut⟩

/-- A frame octet as it is taken: unescaped or not, with the marks of the escapes (R61). -/
def Framer.takes (f : Framer) (o : Byte) : Framer × Byte :=
  if f.escPending then
    ({ f with escPending := false, badEscape := f.badEscape || (o != 0xE9#8 && o != 0xE8#8) }, o ^^^ Config.escapeFlip)
  else (f, o)

theorem Framer.takes_kept (f : Framer) (o : Byte) :
    (f.takes o).1 = { f with escPending := (f.takes o).1.escPending, badEscape := (f.takes o).1.badEscape } := by
  unfold Framer.takes
  split <;> rfl

theorem State.frameLineOctet_taken {o : Byte} (h : s.framer.escPending = true ∨ o ≠ Config.escape) :
    s.frameLineOctet o = State.frameOctet { s with framer := (s.framer.takes o).1 } (s.framer.takes o).2 := by
  unfold State.frameLineOctet Framer.takes
  cases hesc : s.framer.escPending with
  | true => rfl
  | false =>
    have hnot : o ≠ Config.escape := h.resolve_left (by simp [hesc])
    simp only [Bool.false_eq_true, if_false, if_neg hnot]

theorem State.frameOctet_overLength (hcount : s.framer.count = 518) (b : Byte) :
    ∃ f : Framer, f = { s.framer with
        rxState := .hunting, count := f.count, crc := f.crc, header := f.header } ∧
      s.frameOctet b = State.invalidFrame { s with framer := f } := by
  refine ⟨_, ?_, if_pos ?_⟩
  · rfl
  · simp [hcount, Config.overLength]

/-- What the discard of an invalid frame makes of the ports, the pool and the engine (R10, R15, R69, R113). -/
theorem State.invalidFrame_effect (s : State) :
    (∀ q, s.invalidFrame.port q =
      { s.port q with
        events := (s.port q).events.raised (Event.poolLow.bitIf (s.pool.inbound != 0 && fellLow s s.invalidFrame)) }) ∧
    s.invalidFrame =
      { s with
        framer := { s.framer with stored := [], invalidCount := saturatingSucc s.framer.invalidCount }
        ports := s.invalidFrame.ports
        pool :=
          { free := s.pool.free + s.pool.inbound, inbound := 0
            freeCells := s.pool.freeCells ++ s.pool.inboundCells, inboundCells := []
            level := if s.pool.inbound = 0 then s.pool.level else s.invalidFrame.levelNow }
        engine := s.engine.letGo (s.pool.inbound != 0 && s.params.resume ≤ s.invalidFrame.sharedFree) } := by
  have heq := s.invalidFrame_eq
  dsimp only at heq
  by_cases hnone : s.pool.inbound = 0
  · rw [if_pos hnone] at heq
    rw [heq]
    have hnot : (s.pool.inbound != 0) = false := by simpa using hnone
    rw [hnot, if_pos hnone]
    refine ⟨fun q => ?_, ?_⟩
    · rw [Bool.false_and, Event.bitIf_false, EventUnit.raised_zero]
      rfl
    · rw [Bool.false_and, Engine.letGo_false]
  · rw [if_neg hnone] at heq
    rw [heq]
    have hsome : (s.pool.inbound != 0) = true := by simpa using hnone
    rw [hsome, if_neg hnone, Bool.true_and, Bool.true_and]
    refine ⟨fun q => ?_, ?_⟩
    · rw [State.port_settlePool_eq, fellLow, State.sharedFree_settlePool, State.settlePool_params]
      rfl
    · refine (State.settlePool_eq _).trans ?_
      rw [State.settlePool_pool, State.settlePool_engine_eq, State.levelNow, State.levelNow, State.sharedFree_settlePool,
        State.settlePool_params]

end

/-- Settles O39: each receiver state by the definition, and the 519th octet by the discard of an invalid frame. -/
theorem receiverOutsideFrames : Obligations.ReceiverOutsideFrames := by
  intro s o k clocked hreset
  have hoctet (b : Byte) := exec_rxFrameOctet hreset b
  refine ⟨congrArg Host.Outcome.next (State.trunkEvent_live hreset _), fun hrx => ?_, fun hrx hhello => ?_,
    fun hrx => ?_, fun hrx => ?_, fun hrx ho => ?_, fun hrx => ?_, fun hrx hcount ho hplain => ?_⟩
  · have hfound : s.markerFound = { clocked with framer := { clocked.framer with rxState := .between } } := by
      unfold State.markerFound
      obtain h | h := hrx <;> rw [h] <;> rfl
    have hother : s.framer.rxState = .receiving → s.framer.type? ≠ k := fun h => by
      obtain h' | h' := hrx <;> simp [h] at h'
    refine ⟨?_, ?_, fun ho => ?_, fun hhello => ?_⟩
    · exact congrArg Host.Outcome.next ((State.trunkEvent_live hreset _).trans hfound)
    · rw [hoctet, State.lineOctet]
      obtain h | h := hrx <;> rw [h] <;> rfl
    · rw [hoctet, State.lineOctet]
      obtain h | h := hrx <;> rw [h] <;> exact congrArg Host.Outcome.next (if_neg ho)
    · rw [exec_closingMarker_elsewhere hreset hother hhello, hfound]
  · have hother : s.framer.rxState = .receiving → s.framer.type? ≠ k := fun h => by
      obtain h' | h' | ⟨-, h'⟩ := hrx
      · simp [h] at h'
      · simp [h] at h'
      · exact h'
    rw [exec_closingMarker_elsewhere hreset hother hhello, State.markerFound]
    obtain h | h | ⟨h, -⟩ := hrx <;> rw [h]
  · rw [hoctet, State.lineOctet, hrx]
  · rw [hoctet, State.lineOctet, hrx]
    rfl
  · rw [hoctet, exec_rxFrameOctet (by exact hreset), State.lineOctet, hrx, State.lineOctet]
    exact congrArg Host.Outcome.next ((if_neg ho).trans (if_neg ho).symm)
  · rw [hoctet, exec_closingMarker_closing ⟨hreset, hrx, rfl⟩, State.lineOctet, hrx]
    rfl
  · have hline : s.lineOctet o = clocked.frameLineOctet o := by
      rw [State.lineOctet, hrx]
      exact if_neg ho
    have htaken : clocked.frameLineOctet o = _ := State.frameLineOctet_taken (s := clocked) hplain
    have hkept := clocked.framer.takes_kept o
    generalize clocked.framer.takes o = taken at htaken hkept
    obtain ⟨f, hf, hinvalid⟩ := State.frameOctet_overLength (s := { clocked with framer := taken.1 })
      (by
        show taken.1.count = 518
        rw [hkept]
        exact hcount)
      taken.2
    have hf' : f = { taken.1 with rxState := .hunting, count := f.count, crc := f.crc, header := f.header } := hf
    have hfields : f.rxState = .hunting ∧ f.invalidCount = s.framer.invalidCount ∧ f.tx = s.framer.tx ∧
        f.closing = s.framer.closing := by
      rw [hf', hkept]
      exact ⟨rfl, rfl, rfl, rfl⟩
    obtain ⟨hhunting, hcounted, htx, hclosing⟩ := hfields
    have hexec : exec (.rxFrameOctet o) s = .next (State.invalidFrame { s with framer := f }) := by
      rw [hoctet, hline, htaken, hinvalid]
    obtain ⟨hport, heq⟩ := State.invalidFrame_effect { s with framer := f }
    have hframer : (State.invalidFrame { s with framer := f }).framer =
        { f with stored := [], invalidCount := saturatingSucc f.invalidCount } := congrArg State.framer heq
    refine ⟨State.invalidFrame { s with framer := f }, hexec, ?_⟩
    generalize State.invalidFrame { s with framer := f } = t at *
    refine ⟨?_, ?_, ?_, ?_, ?_, hport, ?_⟩
    · rw [hframer]
      exact hhunting
    · rw [hframer]
      show saturatingSucc f.invalidCount = _
      rw [hcounted]
      rfl
    · rw [hframer]
    · rw [hframer]
      exact htx
    · rw [hframer]
      exact hclosing
    · rw [hframer]
      exact heq

end Sys2Proof.Machine
end

section
/-! SUPPORT. A valid DATA frame in UP (R97, R98, R99, R112). -/

namespace Sys2Proof.Machine

section
variable {s : State}

/-- What an acknowledgement leaves of the reception: the framer but for the transmission, and the inbound account. -/
structure ReceptionKept (s t : State) : Prop where
  framer : t.framer = { s.framer with tx := t.framer.tx }
  inbound : t.pool.inbound = s.pool.inbound
  inboundCells : t.pool.inboundCells = s.pool.inboundCells

theorem ReceptionKept.refl (s : State) : ReceptionKept s s := ⟨rfl, rfl, rfl⟩

theorem ReceptionKept.trans {t u : State} (h : ReceptionKept s t) (h' : ReceptionKept t u) : ReceptionKept s u :=
  ⟨by rw [h'.framer, h.framer], h'.inbound.trans h.inbound, h'.inboundCells.trans h.inboundCells⟩

theorem State.freeFrame_receptionKept (s : State) (p : Port) (f : Frame) : ReceptionKept s (s.freeFrame p f) := by
  have hended := s.freeFrame_ended (o := .acked) p f
  refine ⟨?_, hended.inbound, hended.inboundCells⟩
  rw [(s.freeFrame_lineKept p f).framer]

theorem State.holdOnLine_receptionKept (s : State) (p : Port) (f : Frame) : ReceptionKept s (s.holdOnLine p f) := by
  unfold State.holdOnLine
  split
  · exact ⟨rfl, rfl, rfl⟩
  · exact s.freeFrame_receptionKept p f

theorem State.ackHead_receptionKept (s : State) : ReceptionKept s s.ackHead := by
  obtain ⟨-, h⟩ | ⟨e, rest, -, h⟩ := s.ackHead_cases
  · rw [h]
    exact .refl s
  · have hcut : ReceptionKept s { s with engine := { s.engine with window := rest } } := ⟨rfl, rfl, rfl⟩
    have hpaid : ReceptionKept s
        (if e.onLine then State.holdOnLine { s with engine := { s.engine with window := rest } } e.owner e.frame
        else State.freeFrame { s with engine := { s.engine with window := rest } } e.owner e.frame) := by
      split
      · exact hcut.trans (State.holdOnLine_receptionKept ..)
      · exact hcut.trans (State.freeFrame_receptionKept ..)
    rw [h]
    dsimp only
    split
    · exact hpaid.trans ⟨rfl, rfl, rfl⟩
    · exact hpaid

theorem State.acknowledge_receptionKept (s : State) (n : Seq) : ReceptionKept s (s.acknowledge n) := by
  have hentries (k : Nat) : ∀ t : State, ReceptionKept t (t.ackEntries k) := by
    induction k with
    | zero => exact .refl
    | succ k ih => exact fun t => t.ackHead_receptionKept.trans (ih _)
  obtain ⟨timer, round, h⟩ := s.acknowledge_cases n
  rw [h]
  exact (hentries _ s).trans ⟨rfl, rfl, rfl⟩

theorem State.acknowledge_vr (s : State) (n : Seq) : (s.acknowledge n).engine.vr = s.engine.vr := by
  obtain ⟨_, _, _, _, h⟩ := s.acknowledge_engine n
  rw [h]

theorem State.heardAndAcknowledged_receptionKept (s : State) : ReceptionKept s.atMarker s.heardAndAcknowledged :=
  have heard : ReceptionKept s.atMarker { s.atMarker with link := { s.link with heard := true } } := ⟨rfl, rfl, rfl⟩
  heard.trans (State.acknowledge_receptionKept _ _)

/-! ### What is owed -/

/-- An acknowledgement owed, its delay started with a P12 (R99). -/
def Engine.oweAck (e : Engine) (tDly : Nat) : Engine :=
  if e.ackOwed = true then e
  else { e with ackOwed := true, ackDelay := if tDly = 0 then .expired else .running tDly }

/-- A REJECT owed unless one is outstanding (R98). -/
def Engine.oweReject (e : Engine) : Engine :=
  if e.rejectOutstanding = true then e else { e with rejectOwed := true, rejectOutstanding := true }

theorem State.oweAck_eq (s : State) : s.oweAck = { s with engine := s.engine.oweAck s.params.tDly } := by
  unfold State.oweAck Engine.oweAck
  split <;> rfl

theorem State.oweReject_eq (s : State) : s.oweReject = { s with engine := s.engine.oweReject } := by
  unfold State.oweReject Engine.oweReject
  split <;> rfl

/-- A DATA frame that holds no cells leaves what its sequence number and the indication owe (R98, R112). -/
theorem State.discardData_of_empty (hreleased : s.releaseInbound = s) :
    s.discardData =
      let behind := (s.engine.vr - s.framer.seqField).toNat
      if 1 ≤ behind ∧ behind ≤ 7 then { s with engine := s.engine.oweAck s.params.tDly }
      else if 8 ≤ behind then { s with engine := s.engine.oweReject }
      else if s.framer.admission = .abandoned then s
      else if s.engine.haltingPeer = true then { s with engine := { s.engine with flowOwed := .halt } }
      else { s with engine := s.engine.oweReject } := by
  unfold State.discardData
  rw [hreleased]
  dsimp only
  rw [State.oweAck_eq, State.oweReject_eq]
  by_cases hnear : 1 ≤ (s.engine.vr - s.framer.seqField).toNat ∧ (s.engine.vr - s.framer.seqField).toNat ≤ 7
  · rw [if_pos hnear, if_pos hnear]
  · rw [if_neg hnear, if_neg hnear]
    refine ite_congr (propext ?_) (fun _ => rfl) fun _ => rfl
    constructor
    · intro hne
      have hpos : (s.engine.vr - s.framer.seqField).toNat ≠ 0 := fun h => hne (by bv_omega)
      omega
    · rintro hfar heq
      rw [heq] at hfar
      simp at hfar

end

/-- Settles O42: the frame is judged on the state that its acknowledgement leaves, which keeps what was received. -/
theorem dataFrames : Obligations.DataFrames := by
  intro s hclosing hvalid hup hacceptable a oweAck oweReject
  have hexec : exec .dataFrameReceived s = .next a.dataInUp :=
    exec_closingMarker_of_acceptable hclosing (by decide) hvalid hup hacceptable
  obtain ⟨hframer, hinbound, hcells⟩ : ReceptionKept s.atMarker a := s.heardAndAcknowledged_receptionKept
  have hvr : a.engine.vr = s.engine.vr := State.acknowledge_vr _ _
  have hparams : a.params = s.params := s.heardAndAcknowledged_params
  have hadmission : a.framer.admission = s.framer.admission := by rw [hframer]; rfl
  have hstored : a.framer.stored = s.framer.stored := by rw [hframer]; rfl
  have hheader : a.framer.header = s.framer.header := by rw [hframer]; rfl
  have hseq : a.framer.seqField = s.framer.seqField := by rw [hframer]; rfl
  rw [hexec]
  clear_value a
  refine ⟨fun hadmitted => ?_, fun hrefused hempty hnone hnoCells => ?_⟩
  · rw [State.dataInUp, if_pos (hadmission.trans hadmitted), State.acceptFrame, State.oweAck_eq]
    have hfields : a.framer.receivedFrame a.pool.inboundCells = s.framer.receivedFrame s.pool.inboundCells ∧
        a.framer.addressField = s.framer.addressField := by
      rw [hframer, hcells]
      exact ⟨rfl, rfl⟩
    obtain ⟨hreceived, haddress⟩ := hfields
    have howe (e : Engine) : oweAck e = e.oweAck a.params.tDly := by
      rw [hparams]
      rfl
    dsimp only
    rw [hreceived, haddress, howe, hvr]
    rfl
  · have hreleased : a.releaseInbound = a :=
      State.releaseInbound_of_empty (hinbound.trans hnone) (hcells.trans hnoCells) (hstored.trans hempty)
    have hbehind : (a.engine.vr - a.framer.seqField).toNat = (s.engine.vr - s.framer.seqField).toNat := by
      rw [hvr, hseq]
    have hdiscarded := State.discardData_of_empty hreleased
    dsimp only at hdiscarded
    have howe : oweAck a.engine = a.engine.oweAck a.params.tDly := by
      rw [hparams]
      rfl
    rw [State.dataInUp, if_neg fun h => hrefused (hadmission.symm.trans h), hdiscarded, hbehind, hadmission, howe]
    rfl

end Sys2Proof.Machine
end

section
/-! SUPPORT. One line octet of a frame in reception (R61, R62, R70, R8, R9, R111). -/

namespace Sys2Proof.Machine

section
variable {s : State}

theorem State.judgeAdmission_eq (s : State) :
    s.judgeAdmission =
      { s with
        framer :=
          { s.framer with
            admission :=
              if s.link.state = .up ∧ (s.framer.headerOctet 1).extractLsb' 4 4 = s.engine.vr ∧
                  s.engine.haltingPeer = false then .admitted
              else .notAdmitted } } := by
  have hcondition : (s.link.state = .up ∧ s.framer.seqField = s.engine.vr ∧ ¬s.engine.haltingPeer = true) =
      (s.link.state = .up ∧ (s.framer.headerOctet 1).extractLsb' 4 4 = s.engine.vr ∧ s.engine.haltingPeer = false) := by
    rw [Bool.not_eq_true]
    rfl
  have hadmission : (if s.link.state = .up ∧ s.framer.seqField = s.engine.vr ∧ ¬s.engine.haltingPeer = true then
        Admission.admitted else .notAdmitted) = _ := ite_congr hcondition (fun _ => rfl) fun _ => rfl
  unfold State.judgeAdmission
  exact congrArg (fun a => { s with framer := { s.framer with admission := a } }) hadmission

theorem State.releaseInbound_engine (s : State) : s.releaseInbound.engine.SameButFlow s.engine := by
  obtain ⟨-, h⟩ | ⟨-, h⟩ := s.releaseInbound_cases
  · rw [h]
    rfl
  · rw [h]
    obtain h | ⟨h, -⟩ := State.settlePool_engine _ <;> rw [h] <;> rfl

theorem State.abandonFrame_eq (s : State) :
    s.abandonFrame =
      { s.releaseInbound with
        framer := { s.releaseInbound.framer with admission := .abandoned }
        engine := { s.engine with haltingPeer := true, flowOwed := .halt } } := by
  have hengine : { s.releaseInbound.engine with haltingPeer := true, flowOwed := .halt } =
      { s.engine with haltingPeer := true, flowOwed := .halt } := by
    rw [s.releaseInbound_engine]
  unfold State.abandonFrame
  dsimp only
  rw [hengine]

theorem State.grantInbound_keepOctet (s : State) (b : Byte) :
    s.grantInbound.keepOctet b =
      State.settlePool
        { s with
          framer := { s.framer with stored := s.framer.stored ++ [b] }
          freeTick := s.freeTick + 1
          pool :=
            { s.pool with
              free := s.pool.free - 1, inbound := s.pool.inbound + 1
              freeCells := (drawCells s.freeTick 1 s.pool.freeCells).2
              inboundCells := s.pool.inboundCells ++ (drawCells s.freeTick 1 s.pool.freeCells).1 } } := by
  unfold State.keepOctet State.grantInbound
  dsimp only
  rw [State.settlePool_framer]
  exact (State.settlePool_withFramer ..).symm

/-- The octet that leaves the hold stage (R70, R8, R9). -/
theorem State.holdOctet_of_full {x y : Byte} (hhold : s.framer.hold = [x, y]) (b : Byte) :
    s.holdOctet b =
      let h : Framer := { s.framer with hold := [y, b] }
      if s.framer.admission ≠ .admitted then { s with framer := h }
      else if s.framer.stored.length % 64 ≠ 0 then { s with framer := { h with stored := s.framer.stored ++ [x] } }
      else if 1 + s.reservations ≤ s.pool.free then
        let drawn := drawCells s.freeTick 1 s.pool.freeCells
        State.settlePool
          { s with
            framer := { h with stored := s.framer.stored ++ [x] }
            freeTick := s.freeTick + 1
            pool :=
              { s.pool with
                free := s.pool.free - 1, inbound := s.pool.inbound + 1, freeCells := drawn.2
                inboundCells := s.pool.inboundCells ++ drawn.1 } }
      else
        let abandoned := State.releaseInbound { s with framer := h }
        { abandoned with
          framer := { abandoned.framer with admission := .abandoned }
          engine := { s.engine with haltingPeer := true, flowOwed := .halt } } := by
  unfold State.holdOctet
  rw [hhold]
  refine (ite_not ..).symm.trans (ite_congr rfl (fun _ => rfl) fun hadmitted => ?_)
  refine (ite_not ..).symm.trans (ite_congr rfl (fun _ => rfl) fun hstarts => ?_)
  exact ite_congr rfl (fun _ => State.grantInbound_keepOctet _ x) fun _ => State.abandonFrame_eq _

/-- The frame octet that a line octet gives (R61). -/
def Framer.plainOctet (f : Framer) (o : Byte) : Byte := if f.escPending = true then o ^^^ 0x40#8 else o

/-- The framer's registers after a frame octet (R61, R62, R70). -/
def Framer.withOctet (f : Framer) (o : Byte) : Framer :=
  { f with
    escPending := false
    badEscape := f.badEscape || (f.escPending && o != 0xE9#8 && o != 0xE8#8)
    count := f.count + 1, crc := checkOctet f.crc (f.plainOctet o)
    header := if f.header.length < 4 then f.header ++ [f.plainOctet o] else f.header }

/-- What a frame octet below the 519th does once it is counted (R70). -/
def State.octetCounted (s : State) (b : Byte) : State :=
  if s.framer.type? = some .data then
    if s.framer.count = 4 then s.judgeAdmission else if 4 < s.framer.count then s.holdOctet b else s
  else s

/-- What a counted frame octet does: the header, the admission at the fourth octet, the hold stage, and the inbound claim
of an octet that starts a new cell (R70, R8, R9, R111). -/
theorem State.octetCounted_eq (s : State) (g : Framer) (b : Byte) :
    State.octetCounted { s with framer := g } b =
      if g.type? ≠ some .data ∨ g.count < 4 then { s with framer := g }
      else if g.count = 4 then
        { s with
          framer :=
            { g with
              admission :=
                if s.link.state = .up ∧ (g.headerOctet 1).extractLsb' 4 4 = s.engine.vr ∧
                    s.engine.haltingPeer = false then .admitted
                else .notAdmitted } }
      else
        match g.hold with
        | [x, y] =>
          let h : Framer := { g with hold := [y, b] }
          if g.admission ≠ .admitted then { s with framer := h }
          else if g.stored.length % 64 ≠ 0 then { s with framer := { h with stored := g.stored ++ [x] } }
          else if 1 + s.reservations ≤ s.pool.free then
            let drawn := drawCells s.freeTick 1 s.pool.freeCells
            State.settlePool
              { s with
                framer := { h with stored := g.stored ++ [x] }
                freeTick := s.freeTick + 1
                pool :=
                  { s.pool with
                    free := s.pool.free - 1, inbound := s.pool.inbound + 1, freeCells := drawn.2
                    inboundCells := s.pool.inboundCells ++ drawn.1 } }
          else
            let abandoned := State.releaseInbound { s with framer := h }
            { abandoned with
              framer := { abandoned.framer with admission := .abandoned }
              engine := { s.engine with haltingPeer := true, flowOwed := .halt } }
        | l => { s with framer := { g with hold := l ++ [b] } } := by
  unfold State.octetCounted
  dsimp only
  by_cases hshort : g.type? ≠ some .data ∨ g.count < 4
  · rw [if_pos hshort]
    obtain htype | hcount := hshort
    · rw [if_neg htype]
    · have hnot : g.count ≠ 4 := by omega
      have hbelow : ¬4 < g.count := by omega
      rw [if_neg hnot, if_neg hbelow, ite_self]
  · rw [if_neg hshort]
    obtain ⟨htype, hfour⟩ : g.type? = some .data ∧ 4 ≤ g.count := by simpa using hshort
    rw [if_pos htype]
    by_cases hfourth : g.count = 4
    · rw [if_pos hfourth, if_pos hfourth, State.judgeAdmission_eq]
    · have hbehind : 4 < g.count := by omega
      rw [if_neg hfourth, if_neg hfourth, if_pos hbehind]
      have hshort (hlen : g.hold.length ≠ 2) :
          State.holdOctet { s with framer := g } b = { s with framer := { g with hold := g.hold ++ [b] } } := by
        unfold State.holdOctet
        split
        · next x y hpair => exact absurd (congrArg List.length hpair) hlen
        · rfl
      rcases hhold : g.hold with _ | ⟨x, _ | ⟨y, _ | ⟨z, l⟩⟩⟩
      · rw [hshort (by simp [hhold]), hhold]
      · rw [hshort (by simp [hhold]), hhold]
      · exact State.holdOctet_of_full (s := { s with framer := g }) hhold b
      · rw [hshort (by simp [hhold]), hhold]

theorem Framer.takes_eq (f : Framer) (o : Byte) :
    f.takes o =
      ({ f with
          escPending := false
          badEscape := f.badEscape || (f.escPending && o != 0xE9#8 && o != 0xE8#8) }, f.plainOctet o) := by
  unfold Framer.takes Framer.plainOctet
  cases hesc : f.escPending with
  | true => rfl
  | false =>
    simp only [Bool.false_eq_true, if_false, Bool.false_and, Bool.or_false]
    rw [← hesc]

theorem State.frameLineOctet_counted {o : Byte} (hcount : s.framer.count < 518)
    (h : s.framer.escPending = true ∨ o ≠ Config.escape) :
    s.frameLineOctet o = State.octetCounted { s with framer := s.framer.withOctet o } (s.framer.plainOctet o) := by
  rw [State.frameLineOctet_taken h, Framer.takes_eq]
  refine if_neg ?_
  show ¬519 ≤ s.framer.count + 1
  omega

end

/-- Settles O40: the octet as the receiver takes it, then the branches of the header, the admission and the hold stage. -/
theorem receivedOctet : Obligations.ReceivedOctet := by
  intro s o hreset hrx ho hcount watch
  have hline : s.lineOctet o = State.frameLineOctet { s with framer := s.framer.clockSeen } o := by
    rw [State.lineOctet, hrx]
    exact if_neg ho
  refine ⟨fun hplain hescape => ?_, fun htaken => ?_⟩
  · rw [exec_rxFrameOctet hreset, hline, State.frameLineOctet, if_neg (by simp [Framer.clockSeen, hplain]),
      if_pos hescape]
    rfl
  · rw [exec_rxFrameOctet hreset, hline, State.frameLineOctet_counted (by exact hcount) (by exact htaken)]
    refine congrArg Host.Outcome.next ?_
    exact State.octetCounted_eq s (s.framer.clockSeen.withOctet o) (s.framer.plainOctet o)

end Sys2Proof.Machine
end

section
/-! SUPPORT. What the transmitter sends and the receiver takes off the line (R59 to R63, R67, R70, R178). -/

namespace Sys2Proof.Machine

/-! ### One frame octet over the line -/

/-- A frame octet reaches the framer as it was sent (R60, R61). -/
def Framer.gets (f : Framer) (b : Byte) : Framer :=
  { f.clockSeen with
    count := f.count + 1, crc := checkOctet f.crc b
    header := if f.header.length < 4 then f.header ++ [b] else f.header }

section
variable {s : State}

theorem State.lineOctet_of_receiving (hrx : s.framer.rxState = .receiving) {o : Byte} (ho : o ≠ Config.marker) :
    s.lineOctet o = State.frameLineOctet { s with framer := s.framer.clockSeen } o := by
  rw [State.lineOctet, hrx]
  exact if_neg ho

theorem Framer.clockSeen_idem (f : Framer) (esc : Bool) :
    Framer.clockSeen { f.clockSeen with escPending := esc } = { f.clockSeen with escPending := esc } := by
  unfold Framer.clockSeen
  cases f.watch <;> rfl

/-- An octet that needs no escape, or the flipped octet behind one, counts as the octet that was sent (R61). -/
theorem Framer.withOctet_plain (f : Framer) {b : Byte} (hesc : f.escPending = false) :
    f.clockSeen.withOctet b = f.gets b := by
  simp [Framer.withOctet, Framer.gets, Framer.plainOctet, Framer.clockSeen, hesc]

theorem Framer.withOctet_escaped (f : Framer) {b : Byte} (hesc : f.escPending = false)
    (hb : b = Config.marker ∨ b = Config.escape) :
    Framer.withOctet { f.clockSeen with escPending := true } (b ^^^ Config.escapeFlip) = f.gets b ∧
      Framer.plainOctet { f.clockSeen with escPending := true } (b ^^^ Config.escapeFlip) = b := by
  have hback : (b ^^^ Config.escapeFlip) ^^^ 0x40#8 = b := by obtain rfl | rfl := hb <;> decide
  have hknown : (b ^^^ Config.escapeFlip != 0xE9#8 && b ^^^ Config.escapeFlip != 0xE8#8) = false := by
    obtain rfl | rfl := hb <;> decide
  have hplain : Framer.plainOctet { f.clockSeen with escPending := true } (b ^^^ Config.escapeFlip) = b := hback
  refine ⟨?_, hplain⟩
  unfold Framer.withOctet
  rw [hplain]
  simp only [Bool.true_and, hknown, Bool.or_false]
  unfold Framer.gets
  rw [← hesc]
  rfl

/-- The line octets of one frame octet, taken by a receiver in a frame (R60, R61). -/
theorem State.foldl_transparent (hrx : s.framer.rxState = .receiving) (hesc : s.framer.escPending = false)
    (hcount : s.framer.count < 518) (b : Byte) :
    (transparent b).foldl State.lineOctet s = State.octetCounted { s with framer := s.framer.gets b } b := by
  unfold transparent
  by_cases hspecial : b = Config.marker ∨ b = Config.escape
  · have hescape : s.lineOctet Config.escape =
        { s with framer := { s.framer.clockSeen with escPending := true } } := by
      rw [State.lineOctet_of_receiving hrx (by decide), State.frameLineOctet,
        if_neg (by simp [Framer.clockSeen, hesc]), if_pos rfl]
    have hmarker : b ^^^ Config.escapeFlip ≠ Config.marker := by obtain rfl | rfl := hspecial <;> decide
    obtain ⟨hgets, hplain⟩ := s.framer.withOctet_escaped hesc hspecial
    rw [if_pos hspecial]
    show State.lineOctet (s.lineOctet Config.escape) (b ^^^ Config.escapeFlip) = _
    rw [hescape, State.lineOctet_of_receiving (by exact hrx) hmarker]
    dsimp only
    rw [Framer.clockSeen_idem, State.frameLineOctet_counted (by exact hcount) (.inl rfl)]
    dsimp only
    rw [hgets, hplain]
  · obtain ⟨hmarker, hescape⟩ := not_or.mp hspecial
    rw [if_neg hspecial]
    show s.lineOctet b = _
    have hplain : s.framer.clockSeen.plainOctet b = b := by simp [Framer.plainOctet, Framer.clockSeen, hesc]
    rw [State.lineOctet_of_receiving hrx hmarker, State.frameLineOctet_counted (by exact hcount) (.inr hescape)]
    dsimp only
    rw [s.framer.withOctet_plain hesc, hplain]

/-! ### A run of octets -/

/-- The receiver has taken some octets of a frame (R61, R62, R70). -/
structure Framer.Took (f : Framer) (l : List Byte) : Prop where
  rxState : f.rxState = .receiving
  escPending : f.escPending = false
  badEscape : f.badEscape = false
  count : f.count = l.length
  crc : f.crc = checkOf l
  header : f.header = l.take 4

/-- The octets behind the header change what is admitted, held and stored alone (R70). -/
theorem State.octetCounted_framer (s : State) (b : Byte) :
    ∃ a h l, (s.octetCounted b).framer = { s.framer with admission := a, hold := h, stored := l } := by
  have stored (t : State) (x : Byte) (ht : ∃ h, t.framer = { s.framer with hold := h }) :
      ∃ a h l, (t.storeOctet x).framer = { s.framer with admission := a, hold := h, stored := l } := by
    obtain ⟨h, ht⟩ := ht
    unfold State.storeOctet
    split_ifs
    · refine ⟨t.framer.admission, h, t.framer.stored ++ [x], ?_⟩
      rw [State.grantInbound_keepOctet, State.settlePool_framer, ht]
    · refine ⟨.abandoned, h, [], ?_⟩
      rw [State.abandonFrame_eq, (State.releaseInbound_line t).1, ht]
    · refine ⟨t.framer.admission, h, t.framer.stored ++ [x], ?_⟩
      rw [State.keepOctet, ht]
  unfold State.octetCounted
  split_ifs
  · exact ⟨_, _, _, rfl⟩
  · unfold State.holdOctet
    split
    · dsimp only
      split_ifs
      · exact stored _ _ ⟨_, rfl⟩
      · exact ⟨_, _, _, rfl⟩
    · exact ⟨_, _, _, rfl⟩
  · exact ⟨_, _, _, rfl⟩
  · exact ⟨_, _, _, rfl⟩

theorem Framer.Took.gets {f : Framer} {l : List Byte} (h : f.Took l) (b : Byte) : (f.gets b).Took (l ++ [b]) := by
  obtain ⟨hrx, hesc, hbad, hcount, hcrc, hheader⟩ := h
  refine ⟨hrx, hesc, hbad, ?_, ?_, ?_⟩
  · simp [Framer.gets, hcount]
  · simp [Framer.gets, hcrc, checkOf_append]
  · show (if f.header.length < 4 then f.header ++ [b] else f.header) = (l ++ [b]).take 4
    rw [hheader, List.length_take, List.take_append]
    by_cases hshort : l.length < 4
    · rw [if_pos (by omega), List.take_of_length_le (l := [b]) (by simp; omega)]
    · rw [if_neg (by omega), Nat.sub_eq_zero_of_le (by omega), List.take_zero, List.append_nil]

theorem Framer.Took.step {l : List Byte} (h : s.framer.Took l) (hl : l.length < 518) (b : Byte) :
    ((transparent b).foldl State.lineOctet s).framer.Took (l ++ [b]) := by
  have hcount : s.framer.count < 518 := by
    rw [h.count]
    exact hl
  obtain ⟨a, hold, stored, heq⟩ := State.octetCounted_framer { s with framer := s.framer.gets b } b
  obtain ⟨hrx, hesc, hbad, hcounted, hcrc, hheader⟩ := h.gets b
  rw [State.foldl_transparent h.rxState h.escPending hcount, heq]
  exact ⟨hrx, hesc, hbad, hcounted, hcrc, hheader⟩

/-- The type and the octets of a header that has been taken (R63, R178). -/
theorem Framer.Took.type? {f : Framer} {l : List Byte} (h : f.Took l) (hl : l ≠ []) : f.type? = frameType (l.headD 0) := by
  obtain ⟨b, l, rfl⟩ := List.exists_cons_of_ne_nil hl
  rw [Framer.type?, h.header]
  rfl

theorem Framer.Took.headerOctet {f : Framer} {l : List Byte} (h : f.Took l) {i : Nat} (hi : i < 4) :
    f.headerOctet i = l.getD i 0 := by
  rw [Framer.headerOctet, h.header, List.getD_eq_getElem?_getD, List.getD_eq_getElem?_getD, List.getElem?_take_of_lt hi]
  rfl

/-- A frame's octets, from a receiver that is BETWEEN, are taken as its first octet starts the frame (R59). -/
theorem State.foldl_lineOctets_of_between (hbetween : s.framer.rxState = .between) {l : List Byte} (hl : l ≠ []) :
    (lineOctets l).foldl State.lineOctet s =
      (lineOctets l).foldl State.lineOctet { s with framer := s.framer.startReception } := by
  obtain ⟨b, l, rfl⟩ := List.exists_cons_of_ne_nil hl
  have hstart {o : Byte} (ho : o ≠ Config.marker) :
      s.lineOctet o = State.lineOctet { s with framer := s.framer.startReception } o := by
    rw [State.lineOctet, hbetween, State.lineOctet]
    exact (if_neg ho).trans (if_neg ho).symm
  have hfirst : ∃ o rest, transparent b = o :: rest ∧ o ≠ Config.marker := by
    unfold transparent
    by_cases hspecial : b = Config.marker ∨ b = Config.escape
    · exact ⟨_, _, if_pos hspecial, by decide⟩
    · exact ⟨_, _, if_neg hspecial, fun h => hspecial (.inl h)⟩
  obtain ⟨o, rest, htransparent, ho⟩ := hfirst
  unfold lineOctets
  rw [List.flatMap_cons, htransparent, List.cons_append, List.foldl_cons, List.foldl_cons, hstart ho]

theorem lineOctets_singleton (b : Byte) : lineOctets [b] = transparent b := List.flatMap_singleton ..

/-- The octets that the receiver takes once a frame has started. -/
theorem State.took_started (s : State) (l : List Byte) (hl : l.length ≤ 518) :
    ((lineOctets l).foldl State.lineOctet { s with framer := s.framer.startReception }).framer.Took l := by
  induction l using List.reverseRecOn with
  | nil => exact ⟨rfl, rfl, rfl, rfl, rfl, rfl⟩
  | append_singleton l b ih =>
    rw [List.length_append, List.length_singleton] at hl
    rw [lineOctets_append, List.foldl_append, lineOctets_singleton]
    exact (ih (by omega)).step (by omega) b

theorem State.took {l : List Byte} (hbetween : s.framer.rxState = .between) (hne : l ≠ []) (hl : l.length ≤ 518) :
    ((lineOctets l).foldl State.lineOctet s).framer.Took l := by
  rw [State.foldl_lineOctets_of_between hbetween hne]
  exact s.took_started l hl

/-! ### The storage of an admitted frame -/

/-- An admitted DATA frame of which some octets have been taken: its payload octets are stored but for the two in the hold
stage, and the cells for the rest are there (R8, R70). -/
structure State.Keeping (seq : Seq) (l : List Byte) (t : State) : Prop where
  up : t.link.state = .up
  vr : t.engine.vr = seq
  halting : t.engine.haltingPeer = false
  admitted : 4 ≤ l.length → t.framer.admission = .admitted
  octets : t.framer.stored ++ t.framer.hold = l.drop 4
  hold : t.framer.hold.length = min 2 (l.length - 4)
  room : t.reservations + 8 ≤ t.pool.free + (t.framer.stored.length + 63) / 64

theorem State.reservations_settlePool (s : State) : s.settlePool.reservations = s.reservations := by
  have hport (q : Port) : (s.settlePool.port q).reservation = (s.port q).reservation := by
    rw [State.port_settlePool_eq]
    rfl
  rw [State.reservations_eq, State.reservations_eq]
  simp only [hport]

/-- An admitted frame's octet is stored while there are cells (R8). -/
theorem State.Keeping.store {seq : Seq} {l : List Byte} {t : State} {x y b : Byte} (h : t.Keeping seq l)
    (hl : l.length < 518) (hfour : 4 ≤ l.length) (hhold : t.framer.hold = [x, y]) :
    (State.storeOctet { t with framer := { t.framer with hold := [y, b] } } x).Keeping seq (l ++ [b]) := by
  obtain ⟨hup, hvr, hhalting, hadmitted, hoctets, hlen, hroom⟩ := h
  have hstored : t.framer.stored.length + 2 = l.length - 4 := by
    have hlength := congrArg List.length hoctets
    simpa [hhold] using hlength
  have hoctets' : (t.framer.stored ++ [x]) ++ [y, b] = (l ++ [b]).drop 4 := by
    rw [List.drop_append_of_le_length hfour, ← hoctets, hhold]
    simp
  have hlong : ([y, b] : List Byte).length = min 2 ((l ++ [b]).length - 4) := by
    simp only [List.length_cons, List.length_nil, List.length_append]
    omega
  have hcell : t.framer.stored.length % 64 = 0 → (t.framer.stored.length + 1 + 63) / 64 =
      (t.framer.stored.length + 63) / 64 + 1 ∧ (t.framer.stored.length + 63) / 64 ≤ 7 := by omega
  have hlength : (t.framer.stored ++ [x]).length = t.framer.stored.length + 1 := by simp
  unfold State.storeOctet
  split_ifs with hstarts hfree
  · obtain ⟨hnext, -⟩ := hcell hstarts
    rw [State.grantInbound_keepOctet]
    refine ⟨?_, ?_, ?_, fun _ => ?_, ?_, ?_, ?_⟩
    · rw [State.settlePool_link]
      exact hup
    · rw [State.settlePool_engine_eq]
      simpa [Engine.letGo, hhalting] using hvr
    · rw [State.settlePool_engine_eq]
      simp [Engine.letGo, hhalting]
    · rw [State.settlePool_framer]
      exact hadmitted hfour
    · rw [State.settlePool_framer]
      exact hoctets'
    · rw [State.settlePool_framer]
      exact hlong
    · rw [State.settlePool_framer, State.reservations_settlePool, State.settlePool_free]
      show t.reservations + 8 ≤ t.pool.free - 1 + ((t.framer.stored ++ [x]).length + 63) / 64
      have hfree' : 1 + t.reservations ≤ t.pool.free := hfree
      omega
  · obtain ⟨-, hfew⟩ := hcell hstarts
    have hfree' : ¬1 + t.reservations ≤ t.pool.free := hfree
    omega
  · refine ⟨hup, hvr, hhalting, fun _ => hadmitted hfour, hoctets', hlong, ?_⟩
    show t.reservations + 8 ≤ t.pool.free + ((t.framer.stored ++ [x]).length + 63) / 64
    omega

/-- One more octet of an admitted frame (R70). -/
theorem State.Keeping.step {seq : Seq} {l : List Byte} {b : Byte} {t : State} (h : t.Keeping seq l)
    (htook : t.framer.Took l) (hl : l.length < 518) (htype : frameType ((l ++ [b]).headD 0) = some .data)
    (hseq : l.length = 3 → ((l ++ [b]).getD 1 0).extractLsb' 4 4 = seq) :
    ((transparent b).foldl State.lineOctet t).Keeping seq (l ++ [b]) := by
  have hcount : t.framer.count < 518 := by
    rw [htook.count]
    exact hl
  have hgets := htook.gets b
  have hcounted : (t.framer.gets b).count = l.length + 1 := by simpa using hgets.count
  have hkind : (t.framer.gets b).type? = some .data := (hgets.type? (by simp)).trans htype
  rw [State.foldl_transparent htook.rxState htook.escPending hcount, State.octetCounted, if_pos hkind]
  dsimp only
  rw [hcounted]
  split_ifs with hfourth hbehind
  · have hthree : l.length = 3 := by omega
    have hnumber : ((t.framer.gets b).headerOctet 1).extractLsb' 4 4 = t.engine.vr := by
      rw [hgets.headerOctet (by decide), h.vr]
      exact hseq hthree
    have hadmission : State.judgeAdmission { t with framer := t.framer.gets b } =
        { t with framer := { t.framer.gets b with admission := .admitted } } := by
      rw [State.judgeAdmission_eq, if_pos ⟨h.up, hnumber, h.halting⟩]
    have hoctets := h.octets
    have hhold := h.hold
    rw [hadmission]
    refine ⟨h.up, h.vr, h.halting, fun _ => rfl, ?_, ?_, h.room⟩
    · refine hoctets.trans ?_
      rw [List.drop_of_length_le (by omega), List.drop_of_length_le (by simp [hthree])]
    · refine hhold.trans ?_
      simp [hthree]
  · have hfour : 4 ≤ l.length := by omega
    have hlengths : (t.framer.stored ++ t.framer.hold).length = l.length - 4 := by rw [h.octets, List.length_drop]
    have hkeeping : State.Keeping seq l { t with framer := t.framer.gets b } :=
      ⟨h.up, h.vr, h.halting, h.admitted, h.octets, h.hold, h.room⟩
    unfold State.holdOctet
    split
    · next x y hhold =>
      rw [if_pos (by exact h.admitted hfour)]
      exact hkeeping.store hl hfour hhold
    · next hnotFull =>
      refine ⟨h.up, h.vr, h.halting, fun _ => h.admitted hfour, ?_, ?_, h.room⟩
      · rw [List.drop_append_of_le_length hfour, ← h.octets, List.append_assoc]
        rfl
      · have hhold := h.hold
        have hshort : t.framer.hold.length ≠ 2 := fun hfull => by
          obtain ⟨x, y, hpair⟩ := List.length_eq_two.mp hfull
          exact hnotFull x y hpair
        show (t.framer.hold ++ [b]).length = min 2 ((l ++ [b]).length - 4)
        rw [List.length_append, List.length_append, List.length_singleton]
        omega
  · have hnone : l.drop 4 = [] ∧ (l ++ [b]).drop 4 = [] :=
      ⟨List.drop_of_length_le (by omega), List.drop_of_length_le (by rw [List.length_append, List.length_singleton]; omega)⟩
    have hoctets := h.octets
    have hhold := h.hold
    refine ⟨h.up, h.vr, h.halting, fun hfour => ?_, ?_, ?_, h.room⟩
    · rw [List.length_append, List.length_singleton] at hfour
      omega
    · rw [hnone.2, ← hnone.1]
      exact hoctets
    · rw [List.length_append, List.length_singleton]
      refine hhold.trans ?_
      omega

/-- An admitted frame's octets are all stored but for the two in the hold stage (R8, R70). -/
theorem State.keeping {o : List Byte} {seq : Seq} (hbetween : s.framer.rxState = .between) (hlong : o.length ≤ 518)
    (hup : s.link.state = .up) (hvr : s.engine.vr = seq) (hhalting : s.engine.haltingPeer = false)
    (hroom : s.reservations + 8 ≤ s.pool.free) (htype : frameType (o.headD 0) = some .data)
    (hseq : (o.getD 1 0).extractLsb' 4 4 = seq) (hne : o ≠ []) :
    ((lineOctets o).foldl State.lineOctet s).Keeping seq o := by
  have hrun (n : Nat) : n ≤ o.length →
      ((lineOctets (o.take n)).foldl State.lineOctet { s with framer := s.framer.startReception }).Keeping seq
        (o.take n) := by
    induction n with
    | zero => exact fun _ => ⟨hup, hvr, hhalting, nofun, rfl, rfl, hroom.trans (Nat.le_add_right ..)⟩
    | succ n ih =>
      intro hn
      have htook := s.took_started (o.take n) (by rw [List.length_take]; omega)
      have hsplit : o.take (n + 1) = o.take n ++ [o[n]] := List.take_succ_eq_append_getElem hn
      have hhead : (o.take n ++ [o[n]]).headD 0 = o.headD 0 := by
        rw [← hsplit]
        cases o with
        | nil => simp at hn
        | cons b l => rfl
      have hnumber : (o.take n).length = 3 → (o.take n ++ [o[n]]).getD 1 0 = o.getD 1 0 := fun hthree => by
        rw [List.length_take] at hthree
        rw [← hsplit, List.getD_eq_getElem?_getD, List.getD_eq_getElem?_getD, List.getElem?_take_of_lt (by omega)]
      rw [hsplit, lineOctets_append, List.foldl_append, lineOctets_singleton]
      refine (ih (by omega)).step htook (by rw [List.length_take]; omega) (by rw [hhead]; exact htype) fun hthree => ?_
      rw [hnumber hthree]
      exact hseq
  have hall := hrun o.length le_rfl
  rw [List.take_length] at hall
  rwa [State.foldl_lineOctets_of_between hbetween hne]

/-! ### The frames -/

/-- A frame sent with its check octets passes the framer's tests when its length does (R62, R67). -/
theorem Framer.Took.valid {f : Framer} {l : List Byte} (h : f.Took (withCheck l)) {t : FrameType}
    (htype : f.type? = some t) (hlength : lengthValid t (l.length + 2) = true) : f.valid = true := by
  refine f.valid_iff.mpr ⟨h.escPending, h.badEscape, ?_, t, htype, ?_⟩
  · rw [h.crc]
    exact checkResidue l
  · rw [h.count, withCheck, List.length_append]
    exact hlength

theorem extractLsb'_append_low (x y : BitVec 4) : (x ++ y : Byte).extractLsb' 0 4 = y :=
  BitVec.extractLsb'_append_eq_right

theorem extractLsb'_append_high (x y : BitVec 4) : (x ++ y : Byte).extractLsb' 4 4 = x :=
  BitVec.extractLsb'_append_eq_left

theorem length_withCheck (l : List Byte) : (withCheck l).length = l.length + 2 := List.length_append ..

/-- A type and a class share the first octet of a DATA header (R178). -/
theorem classOctet (c : Fin 4) :
    frameType (0x1#4 ++ BitVec.ofNat 4 c.val : Byte) = some .data ∧
      Fin.ofNat 4 ((0x1#4 ++ BitVec.ofNat 4 c.val : Byte).extractLsb' 0 2).toNat = c := by
  revert c
  decide

end

/-- Settles O50: every octet reaches the framer as it was sent, the header fields and the check among them, and an admitted
frame's payload passes the hold stage while there are cells. -/
theorem framesAreReceivedAsSent : Obligations.FramesAreReceivedAsSent := by
  intro s f cls address seq ack seen station short code hbetween
  refine ⟨fun hcls haddress hsome hlong => ?_, fun hshort => ?_, ?_⟩
  · intro t
    have hclass : f.classNo = cls := by simp [Frame.classNo, hcls]
    have haddr : f.address.getD 0 = address := by simp [haddress]
    obtain ⟨l, hl, hcount⟩ : ∃ l, l = [(0x1#4 ++ BitVec.ofNat 4 cls.val : Byte), (seq ++ ack : Byte)] ++
        octets16 address ++ f.payload ∧ l.length = f.payload.length + 4 := by
      refine ⟨_, rfl, ?_⟩
      simp [octets16]
    have hoctets : dataOctets f seq ack = withCheck l := by rw [dataOctets, hclass, haddr, hl]
    have hfull : (withCheck l).length = f.payload.length + 6 := by
      rw [length_withCheck, hcount]
    have hne : withCheck l ≠ [] := fun h => by simp [h] at hfull
    have ht : t = (lineOctets (withCheck l)).foldl State.lineOctet s :=
      congrArg (fun o => (lineOctets o).foldl State.lineOctet s) hoctets
    have htook : t.framer.Took (withCheck l) := by
      rw [ht]
      exact State.took hbetween hne (by omega)
    obtain ⟨hdata, hfield⟩ := classOctet cls
    have hhead : (withCheck l).headD 0 = 0x1#4 ++ BitVec.ofNat 4 cls.val := by
      rw [hl]
      rfl
    have hsecond : (withCheck l).getD 1 0 = seq ++ ack := by
      rw [hl]
      rfl
    have htype : t.framer.type? = some .data := by
      rw [htook.type? hne, hhead]
      exact hdata
    refine ⟨htook.rxState, htype, ?_, ?_, ?_, ?_, ?_, fun hup hvr hhalting hroom => ?_⟩
    · refine htook.valid htype (decide_eq_true ?_)
      omega
    · have hfirst : t.framer.headerOctet 0 = 0x1#4 ++ BitVec.ofNat 4 cls.val := by
        rw [htook.headerOctet (by decide), hl]
        rfl
      rw [Framer.classField, hfirst]
      exact hfield
    · rw [Framer.seqField, htook.headerOctet (by decide), hsecond]
      exact extractLsb'_append_high seq ack
    · rw [Framer.ackField, htook.headerOctet (by decide), hsecond]
      exact extractLsb'_append_low seq ack
    · rw [Framer.addressField, htook.headerOctet (by decide), htook.headerOctet (by decide), hl]
      exact wordOf_octets16 address
    · have hkeeping : t.Keeping seq (withCheck l) := by
        rw [ht]
        refine State.keeping hbetween (by omega) hup hvr hhalting (by omega) ?_ ?_ hne
        · rw [hhead]
          exact hdata
        · rw [hsecond]
          exact extractLsb'_append_high seq ack
      refine ⟨hkeeping.admitted (by omega), ?_⟩
      have hall : t.framer.stored ++ t.framer.hold = f.payload ++ octets16 (~~~(checkOf l)) := by
        rw [hkeeping.octets, withCheck, hl]
        rfl
      have hheld : t.framer.hold.length = (octets16 (~~~(checkOf l))).length := by
        rw [hkeeping.hold, hfull]
        show min 2 (f.payload.length + 6 - 4) = 2
        omega
      exact List.append_inj_left' hall hheld
  · intro t
    have hne : withCheck [code ++ 0x0#4, 0x0#4 ++ ack] ≠ [] := by simp [withCheck]
    have htook : t.framer.Took (withCheck [code ++ 0x0#4, 0x0#4 ++ ack]) :=
      State.took hbetween hne (by rw [shortOctets, length_withCheck]; exact (by decide : 2 + 2 ≤ 518))
    have hhead : (withCheck [code ++ 0x0#4, 0x0#4 ++ ack]).headD 0 = code ++ 0x0#4 := rfl
    have htype : t.framer.type? = some short := by
      rw [htook.type? hne, hhead]
      simp only [List.mem_cons, Prod.mk.injEq, List.not_mem_nil, or_false] at hshort
      obtain ⟨rfl, rfl⟩ | ⟨rfl, rfl⟩ | ⟨rfl, rfl⟩ | ⟨rfl, rfl⟩ := hshort <;> decide
    refine ⟨htook.rxState, htype, htook.valid htype ?_, ?_⟩
    · simp only [List.mem_cons, Prod.mk.injEq, List.not_mem_nil, or_false] at hshort
      obtain ⟨rfl, -⟩ | ⟨rfl, -⟩ | ⟨rfl, -⟩ | ⟨rfl, -⟩ := hshort <;> rfl
    · rw [Framer.ackField, htook.headerOctet (by decide)]
      exact extractLsb'_append_low 0x0#4 ack
  · intro t
    have hne : helloOctets seen station ≠ [] := by simp [helloOctets, withCheck]
    have htook : t.framer.Took (withCheck [if seen then 0x61#8 else 0x60#8, 0#8, station]) :=
      State.took hbetween hne (by rw [helloOctets, length_withCheck]; exact (by decide : 3 + 2 ≤ 518))
    have hhead : (helloOctets seen station).headD 0 = if seen then 0x61#8 else 0x60#8 := rfl
    have htype : t.framer.type? = some .hello := by
      rw [htook.type? hne]
      refine (congrArg frameType hhead).trans ?_
      cases seen <;> decide
    refine ⟨htook.rxState, htype, htook.valid htype rfl, ?_, ?_⟩
    · have hfirst : t.framer.headerOctet 0 = if seen then 0x61#8 else 0x60#8 := htook.headerOctet (by decide)
      rw [Framer.seenField, hfirst]
      cases seen <;> decide
    · rw [Framer.stationField, htook.headerOctet (by decide)]
      rfl

end Sys2Proof.Machine
end

section
/-! SUPPORT. What link, timers, receiver, window and engine agree on, and the changes that keep it (spec/05, spec/06). -/

namespace Sys2Proof.Machine

/-- The laws on the link's timers, the receiver and the quiet engine (R52, R58, R73, R76 to R78, R114). -/
def State.LineLaws (s : State) : Prop := s.LinkTimerLaw ∧ s.ReceiverLaw ∧ s.EngineQuietLaw

/-- The laws on window, reception and line pass from s to t. -/
structure Passing (s t : State) : Prop where
  window : s.ParameterLaw → s.WindowLaw → t.WindowLaw
  reception : s.ReceptionLaw → t.ReceptionLaw
  line : s.LineLaws → t.LineLaws
  params : t.params = s.params

section
variable {s t u : State}

theorem Passing.refl (s : State) : Passing s s := ⟨fun _ => id, id, id, rfl⟩

theorem Passing.trans (h : Passing s t) (h' : Passing t u) : Passing s u :=
  ⟨fun hp hw => h'.window (hp.of_eq h.params) (h.window hp hw), h'.reception ∘ h.reception, h'.line ∘ h.line,
    h'.params.trans h.params⟩

theorem Passing.ite {c : Prop} [Decidable c] (ht : Passing s t) (hu : Passing s u) :
    Passing s (if c then t else u) := by
  split
  · exact ht
  · exact hu

/-! ### The frame in reception -/

/-- From s to t the frame in reception stays as it is, in a link that is UP when it was and with a peer that is not being
halted when it was not. -/
structure SameReception (s t : State) : Prop where
  rxState : t.framer.rxState = s.framer.rxState
  admission : t.framer.admission = s.framer.admission
  stored : t.framer.stored = s.framer.stored
  header : t.framer.header = s.framer.header
  count : t.framer.count = s.framer.count
  up : s.link.state = .up → t.link.state = .up
  halting : s.engine.haltingPeer = false → t.engine.haltingPeer = false

theorem SameReception.law (h : SameReception s t) (hs : s.ReceptionLaw) : t.ReceptionLaw := by
  obtain ⟨hstored, hadmitted, hnot⟩ := hs
  obtain ⟨hrx, hadmission, hsame, hheader, hcount, hup, hhalting⟩ := h
  unfold State.ReceptionLaw Framer.type?
  rw [hrx, hadmission, hsame, hheader, hcount]
  exact ⟨hstored, fun hr ha => ⟨(hadmitted hr ha).1, hup (hadmitted hr ha).2.1, hhalting (hadmitted hr ha).2.2⟩, hnot⟩

/-- Nothing is stored of a frame unless it is in reception. -/
theorem State.ReceptionLaw.stored_eq_nil (h : s.ReceptionLaw) (hrx : s.framer.rxState ≠ .receiving) :
    s.framer.stored = [] := by
  by_contra hstored
  exact hrx (h.1 hstored).1

theorem receptionLaw_of_idle (hrx : t.framer.rxState ≠ .receiving) (hstored : t.framer.stored = []) : t.ReceptionLaw :=
  ⟨fun h => absurd hstored h, fun h => absurd h hrx, fun h => absurd h hrx⟩

/-! ### Changes that leave link and receiver -/

/-- From s to t the link and the state of the receiver stay; of the engine the halting of the peer may have ended, and
window entries may have changed but for their numbers. -/
structure Still (s t : State) : Prop where
  params : t.params = s.params
  link : t.link = s.link
  rxState : t.framer.rxState = s.framer.rxState
  watch : t.framer.watch = s.framer.watch
  cut : t.framer.cut = s.framer.cut
  reception : s.ReceptionLaw → t.ReceptionLaw
  engine : ∃ b w, t.engine = { s.engine.letGo b with window := w } ∧ w.map (·.seq) = s.engine.window.map (·.seq)

theorem Still.refl (s : State) : Still s s := ⟨rfl, rfl, rfl, rfl, rfl, id, false, s.engine.window, by simp, rfl⟩

theorem Still.trans (h : Still s t) (h' : Still t u) : Still s u := by
  obtain ⟨hparams, hlink, hrx, hwatch, hcut, hrec, b, w, hengine, hw⟩ := h
  obtain ⟨hparams', hlink', hrx', hwatch', hcut', hrec', b', w', hengine', hw'⟩ := h'
  refine ⟨hparams'.trans hparams, hlink'.trans hlink, hrx'.trans hrx, hwatch'.trans hwatch, hcut'.trans hcut,
    hrec' ∘ hrec, b || b', w', ?_, hw'.trans ?_⟩
  · rw [hengine', hengine, Engine.letGo_window, Engine.letGo_letGo]
  · rw [hengine]
    exact hw

theorem Still.foldl {α : Type} {f : State → α → State} (h : ∀ t x, Still t (f t x)) (l : List α) (s : State) :
    Still s (l.foldl f s) := by
  induction l generalizing s with
  | nil => exact .refl s
  | cons x l ih => exact (h s x).trans (ih _)

theorem Still.ite {c : Prop} [Decidable c] (ht : Still s t) (hu : Still s u) : Still s (if c then t else u) := by
  split
  · exact ht
  · exact hu

theorem Engine.letGo_haltingPeer_false {e : Engine} {b : Bool} (h : e.haltingPeer = false) :
    (e.letGo b).haltingPeer = false := by
  simp [Engine.letGo, h]

theorem Still.of_engine {b : Bool} (hparams : t.params = s.params) (hlink : t.link = s.link)
    (hframer : t.framer = s.framer) (hengine : t.engine = s.engine.letGo b) : Still s t :=
  ⟨hparams, hlink, congrArg Framer.rxState hframer, congrArg Framer.watch hframer, congrArg Framer.cut hframer,
    SameReception.law ⟨by rw [hframer], by rw [hframer], by rw [hframer], by rw [hframer], by rw [hframer],
      by rw [hlink]; exact id,
      by rw [hengine]; exact Engine.letGo_haltingPeer_false⟩,
    b, s.engine.window, by rw [hengine, ← Engine.letGo_window], rfl⟩

theorem Still.of_eq (hparams : t.params = s.params) (hlink : t.link = s.link) (hframer : t.framer = s.framer)
    (hengine : t.engine = s.engine) : Still s t :=
  .of_engine (b := false) hparams hlink hframer (by rw [hengine, Engine.letGo_false])

theorem State.settlePool_still (s : State) : Still s s.settlePool :=
  .of_engine (by simp) (by simp) (by simp) s.settlePool_engine_eq

theorem State.modPort_still (s : State) (p : Port) (f : PortState → PortState) : Still s (s.modPort p f) :=
  .of_eq rfl rfl rfl rfl

theorem State.freeFrame_still (s : State) (p : Port) (f : Frame) : Still s (s.freeFrame p f) :=
  have returned : Still s (s.returnFrames p [f]) := .of_eq rfl rfl rfl rfl
  returned.trans (State.settlePool_still _)

theorem State.convertSlot_still (s : State) (p : Port) (f : Frame) (o : CplOutcome) : Still s (s.convertSlot p f o) :=
  s.modPort_still p _

theorem State.failFrame_still (s : State) (p : Port) (o : CplOutcome) (f : Frame) : Still s (s.failFrame p o f) :=
  (s.freeFrame_still p f).trans ((State.convertSlot_still _ p f o).ite (.refl _))

theorem State.failWaiting_still (s : State) (o : CplOutcome) : Still s (s.failWaiting o) :=
  Still.foldl (fun t p => (t.modPort_still p _).trans (Still.foldl (fun u f => u.failFrame_still p o f) _ _)) _ _

/-- Nothing of a frame is stored any longer. -/
theorem receptionLaw_emptied {f : Framer} (hrx : f.rxState = s.framer.rxState) (hadmission : f.admission = s.framer.admission)
    (hstored : f.stored = []) (hheader : f.header = s.framer.header) (hcount : f.count = s.framer.count)
    (hs : s.ReceptionLaw) : State.ReceptionLaw { s with framer := f } := by
  obtain ⟨-, hadmitted, hnot⟩ := hs
  unfold State.ReceptionLaw Framer.type?
  dsimp only
  rw [hrx, hadmission, hheader, hcount]
  exact ⟨fun h => absurd hstored h, hadmitted, hnot⟩

theorem State.releaseInbound_still (s : State) : Still s s.releaseInbound := by
  obtain ⟨-, h⟩ | ⟨-, h⟩ := s.releaseInbound_cases
  · rw [h]
    exact ⟨rfl, rfl, rfl, rfl, rfl, receptionLaw_emptied (s := s) rfl rfl rfl rfl rfl, false, s.engine.window, by simp, rfl⟩
  · rw [h]
    refine Still.trans ?_ (State.settlePool_still _)
    exact ⟨rfl, rfl, rfl, rfl, rfl, receptionLaw_emptied (s := s) rfl rfl rfl rfl rfl, false, s.engine.window, by simp, rfl⟩

theorem offLine_seq (w : List WindowEntry) : (offLine w).map (·.seq) = w.map (·.seq) := by
  simp [offLine]

theorem State.endTransmission_still (s : State) (c : List Byte) : Still s (s.endTransmission c) := by
  unfold State.endTransmission
  cases s.framer.tx with
  | idle => exact .refl s
  | sending x =>
    have hidle : Still s
        { s with
          framer := { s.framer with tx := .idle, closing := c }
          engine := { s.engine with window := offLine s.engine.window } } :=
      ⟨rfl, rfl, rfl, rfl, rfl, SameReception.law ⟨rfl, rfl, rfl, rfl, rfl, id, id⟩, false, _, by simp, offLine_seq _⟩
    obtain ⟨kind, octets, held⟩ := x
    cases held with
    | none => exact hidle
    | some y => exact hidle.trans (State.freeFrame_still _ y.1 y.2)

theorem State.abortTransmission_still (s : State) : Still s s.abortTransmission := by
  obtain ⟨-, e⟩ | ⟨x, c, -, -, e⟩ := s.abortTransmission_cases
  · rw [e]
    exact .refl s
  · rw [e]
    have hticked : Still s { s with freeTick := s.freeTick + 1 } := .of_eq rfl rfl rfl rfl
    exact hticked.trans (State.endTransmission_still _ c)

/-- Consecutive numbers are those of the numbers alone (R93). -/
theorem consecutiveFrom_congr {w w' : List WindowEntry} (h : w'.map (·.seq) = w.map (·.seq)) (n last : Seq) :
    consecutiveFrom n w' last ↔ consecutiveFrom n w last := by
  induction w generalizing n w' with
  | nil => rw [List.map_eq_nil_iff.mp h]
  | cons e w ih =>
    cases w' with
    | nil => simp at h
    | cons e' w' =>
      obtain ⟨hseq, hrest⟩ := List.cons.inj h
      exact and_congr (by rw [show e'.seq = e.seq from hseq]) (ih hrest _)

theorem Engine.va_congr {e e' : Engine} (h : e'.window.map (·.seq) = e.window.map (·.seq)) (hvs : e'.vs = e.vs) :
    e'.va = e.va := by
  unfold Engine.va
  cases hw : e.window with
  | nil =>
    rw [hw, List.map_nil, List.map_eq_nil_iff] at h
    rw [h]
    exact hvs
  | cons x l =>
    cases hw' : e'.window with
    | nil => simp [hw, hw'] at h
    | cons y l' =>
      rw [hw, hw'] at h
      exact (List.cons.inj h).1

/-- A window with the same numbers, in a link that is UP when it was, keeps the law on the window (R93). -/
theorem State.WindowLaw.of_seq (h : s.WindowLaw) (hw : t.engine.window.map (·.seq) = s.engine.window.map (·.seq))
    (hvs : t.engine.vs = s.engine.vs) (hup : s.link.state = .up → t.link.state = .up) : t.WindowLaw := by
  obtain ⟨hlength, hnumbers, hdown⟩ := h
  have hlen : t.engine.window.length = s.engine.window.length := by simpa using congrArg List.length hw
  refine ⟨hlen ▸ hlength, ?_, fun hnot => ?_⟩
  · rw [Engine.va_congr hw hvs, hvs, consecutiveFrom_congr hw]
    exact hnumbers
  · have hempty := hdown fun h => hnot (hup h)
    rw [hempty] at hlen
    exact List.length_eq_zero_iff.mp hlen

theorem Still.passing (h : Still s t) : Passing s t := by
  obtain ⟨hparams, hlink, hrx, hwatch, hcut, hrec, b, w, hengine, hw⟩ := h
  refine ⟨fun _ hlaw => hlaw.of_seq ?_ ?_ ?_, hrec, fun ⟨htimers, hreceiver, hquiet⟩ => ⟨?_, ?_, ?_⟩, hparams⟩
  · rw [hengine]
    exact hw
  · rw [hengine]
    unfold Engine.letGo
    split <;> rfl
  · rw [hlink]
    exact id
  · unfold State.LinkTimerLaw
    rw [hlink]
    exact htimers
  · unfold State.ReceiverLaw
    rw [hlink, hrx, hwatch, hcut]
    exact hreceiver
  · intro hnot
    rw [hlink] at hnot
    obtain ⟨-, -, hhalting, -⟩ := hquiet.fields hnot
    have hsame : s.engine.letGo b = s.engine := by simp [Engine.letGo, hhalting]
    rw [hengine, hsame, hquiet hnot]
    rfl

end

end Sys2Proof.Machine
end

section
/-! SUPPORT. The moves of the link keep what link, timers, receiver, window and engine agree on. -/

namespace Sys2Proof.Machine

section
variable {s t u : State}

/-! ### The link alone -/

/-- A change of the link that neither enters nor leaves OFF or UP. -/
theorem passing_withLink {l : Link} (hoff : l.state = .off ↔ s.link.state = .off) (hup : l.state = .up ↔ s.link.state = .up)
    (htimers : s.LinkTimerLaw → State.LinkTimerLaw { s with link := l }) : Passing s { s with link := l } where
  window _ h := by
    obtain ⟨hlength, hnumbers, hdown⟩ := h
    exact ⟨hlength, hnumbers, fun hnot => hdown fun h => hnot (hup.mpr h)⟩
  reception := SameReception.law ⟨rfl, rfl, rfl, rfl, rfl, hup.mpr, id⟩
  line := by
    rintro ⟨hlaw, ⟨hrx, hwatch, hcut⟩, hquiet⟩
    exact ⟨htimers hlaw, ⟨hrx.trans hoff.symm, hwatch.trans hoff.symm, hcut⟩, fun hnot => hquiet fun h => hnot (hup.mpr h)⟩
  params := rfl

theorem raiseAll_still (s : State) (e : Event) : Still s (s.raiseAll e) := .of_eq rfl rfl rfl rfl

theorem State.enterSeeking_passing (hoff : s.link.state ≠ .off) (hup : s.link.state ≠ .up) : Passing s s.enterSeeking := by
  refine Passing.trans (passing_withLink ?_ ?_ fun h => ?_) (raiseAll_still _ _).passing
  · simp [hoff]
  · simp [hup]
  · obtain ⟨-, -, -, -, hflush, hflushed⟩ := h
    refine ⟨nofun, nofun, ?_, ?_, fun _ => ⟨nofun, nofun⟩, fun _ => ⟨nofun, nofun⟩⟩ <;> simp

theorem State.enterConfirming_passing (b : Byte) (hseeking : s.link.state = .seeking) :
    Passing s (s.enterConfirming b) := by
  refine Passing.trans (passing_withLink ?_ ?_ fun h => ?_) (raiseAll_still _ _).passing
  · simp [hseeking]
  · simp [hseeking]
  · obtain ⟨-, -, -, hholdOff, hflush, hflushed⟩ := h
    refine ⟨nofun, nofun, ?_, ?_, fun _ => ⟨nofun, nofun⟩, fun _ => ⟨nofun, nofun⟩⟩
    · simp
    · simpa [hseeking] using hholdOff

theorem State.enterLost_passing (cause : LossCause) (hstate : s.link.state = .seeking ∨ s.link.state = .confirming) :
    Passing s (s.enterLost cause) := by
  refine Passing.trans (passing_withLink ?_ ?_ fun h => ?_) (raiseAll_still _ _).passing
  · obtain h | h := hstate <;> simp [h]
  · obtain h | h := hstate <;> simp [h]
  · refine ⟨nofun, fun _ => ⟨rfl, rfl⟩, ?_, ?_, fun _ => ⟨nofun, nofun⟩, fun _ => ⟨nofun, nofun⟩⟩ <;> simp

theorem State.loopedBack_passing (hstate : s.link.state = .seeking ∨ s.link.state = .confirming) :
    Passing s s.loopedBack :=
  s.abortTransmission_still.passing.trans (State.enterLost_passing .looped (by rwa [s.abortTransmission_still.link]))

theorem State.hear_passing (s : State) : Passing s s.hear := passing_withLink .rfl .rfl id

/-! ### UP -/

theorem State.enterUp_passing (hconfirming : s.link.state = .confirming) : Passing s s.enterUp := by
  refine Passing.trans (t := { s with
    engine := { s.engine.quiet with vs := 0, vr := 0 }
    link :=
      { s.link with
        state := .up, confCount := s.params.nUp, lossCount := 0, heard := false, helloDue := false
        helloTimer := .running s.params.tHello, intervalTimer := .running s.params.tHello
        flushTimer := .stopped, flushed := false } }) ⟨fun _ h => ?_, ?_, ?_, rfl⟩ (raiseAll_still _ _).passing
  · obtain ⟨-, -, hdown⟩ := h
    have hempty : s.engine.window = [] := hdown (by simp [hconfirming])
    unfold State.WindowLaw Engine.va
    dsimp only [Engine.quiet]
    rw [hempty]
    exact ⟨Nat.zero_le _, rfl, fun _ => rfl⟩
  · exact SameReception.law ⟨rfl, rfl, rfl, rfl, rfl, fun _ => rfl, fun _ => rfl⟩
  · rintro ⟨htimers, ⟨hrx, hwatch, hcut⟩, -⟩
    obtain ⟨-, -, -, hholdOff, -⟩ := htimers
    refine ⟨⟨nofun, nofun, ?_, ?_, nofun, nofun⟩, ⟨?_, ?_, hcut⟩, fun h => absurd rfl h⟩
    · simp
    · simpa [hconfirming] using hholdOff
    · simpa [hconfirming] using hrx
    · simpa [hconfirming] using hwatch

/-- What leaving UP makes of engine and link (R86). -/
theorem State.leaveUp_line (s : State) (cause : LossCause) :
    (s.leaveUp cause).engine = { s.engine.quiet with window := [] } ∧
      (s.leaveUp cause).link =
        { s.link with
          state := .lost, lossCount := 0, heard := false, lastCause := cause, helloTimer := .stopped
          helloDue := false, intervalTimer := .stopped, holdOffTimer := .running s.params.tHold
          flushTimer := (s.leaveUp cause).link.flushTimer, flushed := (s.leaveUp cause).link.flushed } ∧
      (s.leaveUp cause).params = s.params := by
  obtain ⟨-, -, -, -, -, -, -, -, -, hengine, hlink, hrest⟩ := leavingUp s cause .p0
  refine ⟨hengine, ?_, ?_⟩
  · rw [hlink]
  · rw [hrest]

theorem windowLaw_of_empty (h : t.engine.window = []) : t.WindowLaw := by
  unfold State.WindowLaw Engine.va
  rw [h]
  exact ⟨Nat.zero_le _, rfl, fun _ => rfl⟩

theorem State.leaveUp_passing (cause : LossCause) (hup : s.LineLaws → s.link.state = .up) :
    Passing s (s.leaveUp cause) := by
  obtain ⟨hengine, hlink, hparams⟩ := s.leaveUp_line cause
  have hframer := s.leaveUp_framer cause
  refine ⟨fun _ _ => windowLaw_of_empty ?_, fun h => ?_, ?_, hparams⟩
  · rw [hengine]
  · refine receptionLaw_of_idle ?_ ?_
    · rw [hframer]
      intro hnow
      dsimp only at hnow
      split at hnow
      · cases hnow
      · simp_all
    · rw [hframer]
      dsimp only
      split
      · rfl
      · next hnot => exact h.stored_eq_nil (by simpa using hnot)
  · intro h
    have hup := hup h
    obtain ⟨-, ⟨hrx, hwatch, hcut⟩, -⟩ := h
    have hlost : (s.leaveUp cause).link.state = .lost := by rw [hlink]
    generalize s.leaveUp cause = t at *
    refine ⟨?_, ⟨?_, ?_, ?_⟩, fun _ => ?_⟩
    · unfold State.LinkTimerLaw
      rw [hlost, hlink]
      simp
    · rw [hlost, hframer]
      have hnot : s.framer.rxState ≠ .ignoring := fun h => absurd (hrx.mp h) (by simp [hup])
      cases hstate : s.framer.rxState with
      | ignoring => exact absurd hstate hnot
      | hunting | between | receiving | discarding => simp
    · rw [hlost, hframer]
      simpa [hup] using hwatch
    · rw [hframer]
      intro h
      simp [hcut h]
    · rw [hengine]
      rfl

/-! ### The flush timer -/

theorem State.flushExpiry_passing (h : s.LinkTimerLaw → s.link.state ≠ .off ∧ s.link.state ≠ .up) :
    Passing s s.flushExpiry := by
  have hstill := s.failWaiting_still .linkDown
  refine hstill.passing.trans (passing_withLink .rfl .rfl fun hlaw => ?_)
  have hbefore : s.LinkTimerLaw := by
    unfold State.LinkTimerLaw at hlaw
    rwa [hstill.link] at hlaw
  have hstate := h hbefore
  obtain ⟨hoffTimers, hlostTimers, hinterval, hholdOff, -, -⟩ := hbefore
  refine ⟨?_, ?_, ?_, ?_, fun h => absurd rfl h, fun _ => ?_⟩
  all_goals
    dsimp only
    rw [hstill.link]
  · exact hoffTimers
  · exact hlostTimers
  · exact hinterval
  · exact hholdOff
  · exact hstate

theorem State.startFlushTimer_passing (hoff : s.link.state ≠ .off) (hup : s.link.state ≠ .up) :
    Passing s s.startFlushTimer := by
  obtain ⟨-, h⟩ | ⟨-, -, h⟩ | ⟨-, -, h⟩ := s.startFlushTimer_cases <;> rw [h]
  · exact .refl s
  · exact State.flushExpiry_passing fun _ => ⟨hoff, hup⟩
  · refine passing_withLink .rfl .rfl fun h => ?_
    obtain ⟨hoffTimers, hlostTimers, hinterval, hholdOff, -, hflushed⟩ := h
    exact ⟨hoffTimers, hlostTimers, hinterval, hholdOff, fun _ => ⟨hoff, hup⟩, hflushed⟩

/-! ### The trunk on and off -/

theorem State.trunkOn_passing (s : State) : Passing s s.trunkOn := by
  unfold State.trunkOn
  by_cases hoff : s.link.state = .off
  · rw [if_pos hoff]
    refine Passing.trans
      (t := State.enterSeeking { s with framer := { s.framer with rxState := .hunting, watch := .running } })
      ⟨fun _ h => ?_, fun h => ?_, ?_, rfl⟩ (State.startFlushTimer_passing nofun nofun)
    · obtain ⟨hlength, hnumbers, hdown⟩ := h
      exact ⟨hlength, hnumbers, fun _ => hdown (by simp [hoff])⟩
    · refine receptionLaw_of_idle nofun (show s.framer.stored = [] from ?_)
      by_contra hstored
      obtain ⟨hrx, hadmitted⟩ := h.1 hstored
      exact absurd (h.2.1 hrx hadmitted).2.1 (by simp [hoff])
    · rintro ⟨⟨-, -, -, -, -, -⟩, ⟨-, -, hcut⟩, hquiet⟩
      refine ⟨⟨nofun, nofun, ?_, ?_, fun _ => ⟨nofun, nofun⟩, fun _ => ⟨nofun, nofun⟩⟩, ⟨?_, ?_, fun _ => rfl⟩, fun _ => ?_⟩
      · simp [State.enterSeeking, State.setLinkState]
      · simp [State.enterSeeking, State.setLinkState]
      · simp [State.enterSeeking, State.setLinkState]
      · simp [State.enterSeeking, State.setLinkState]
      · exact hquiet (by simp [hoff])
  · rw [if_neg hoff]
    exact .refl s

theorem State.trunkOff_passing (s : State) : Passing s s.trunkOff := by
  by_cases hoff : s.link.state = .off
  · rw [State.trunkOff, if_pos hoff]
    exact .refl s
  · have hparams : s.switchedOff.params = s.params := by rw [s.switchedOff_ended.rest]
    obtain ⟨hframer, hwindow⟩ := s.switchedOff_line
    rw [State.trunkOff_of_not_off hoff]
    generalize s.switchedOff = v at *
    refine ⟨fun _ _ => windowLaw_of_empty hwindow, fun h => receptionLaw_of_idle nofun ?_,
      fun _ => ⟨?_, ⟨?_, ?_, nofun⟩, fun _ => rfl⟩, hparams⟩
    · show v.framer.stored = []
      rw [hframer]
      dsimp only
      split
      · rfl
      · next hnot => exact h.stored_eq_nil (by simpa using hnot)
    · refine ⟨fun _ => ⟨rfl, rfl⟩, nofun, ?_, ?_, fun h => absurd rfl h, nofun⟩ <;>
        simp [State.silenced]
    · simp [State.silenced]
    · simp [State.silenced]

end

end Sys2Proof.Machine
end

section
/-! SUPPORT. The transmit line, the timers and acknowledgement keep what link, timers, receiver, window and engine agree
on. -/

namespace Sys2Proof.Machine

section
variable {s t u : State}

/-! ### The engine alone -/

/-- A change of the engine in UP that keeps the numbers of the window and does not begin to halt the peer. -/
theorem passing_withEngine {e : Engine} (hw : e.window.map (·.seq) = s.engine.window.map (·.seq)) (hvs : e.vs = s.engine.vs)
    (hhalting : s.engine.haltingPeer = false → e.haltingPeer = false) (hup : s.LineLaws → s.link.state = .up) :
    Passing s { s with engine := e } where
  window _ h := h.of_seq hw hvs id
  reception := SameReception.law ⟨rfl, rfl, rfl, rfl, rfl, id, hhalting⟩
  line h := ⟨h.1, h.2.1, fun hnot => absurd (hup h) hnot⟩
  params := rfl

/-- Outside UP no timer of the engine runs (R114). -/
theorem State.LineLaws.up_of_engine (h : s.LineLaws) (hnot : s.engine ≠ s.engine.quiet) : s.link.state = .up := by
  by_contra hdown
  exact hnot (h.2.2 hdown)

/-! ### The transmit line -/

theorem withTx_still (s : State) (x : TxState) : Still s { s with framer := { s.framer with tx := x } } :=
  ⟨rfl, rfl, rfl, rfl, rfl, SameReception.law ⟨rfl, rfl, rfl, rfl, rfl, id, id⟩, false, _, by simp, rfl⟩

/-- The line taken by a frame, and in UP the HELLO timer stopped (R65, R76). -/
theorem lineTaken_passing (s : State) (x : TxState) :
    Passing s
      { s with
        framer := { s.framer with tx := x }
        link := if s.link.state = .up then { s.link with helloDue := false, helloTimer := .stopped } else s.link } := by
  refine (withTx_still s x).passing.trans (passing_withLink ?_ ?_ fun h => ?_)
  · dsimp only
    split <;> rfl
  · dsimp only
    split <;> rfl
  · dsimp only
    split
    · next hup =>
      obtain ⟨-, -, hinterval, hholdOff, hflush, hflushed⟩ := h
      exact ⟨fun h => absurd (hup.symm.trans h) nofun, fun h => absurd (hup.symm.trans h) nofun, hinterval, hholdOff, hflush,
        hflushed⟩
    · exact h

theorem State.startFrame_passing (k : FrameType) (l : List Byte) (h : k = .hello ∨ s.link.state = .up) :
    Passing s (s.startFrame k l) := by
  have line := lineTaken_passing s (.sending { kind := k, octets := l, held := none })
  by_cases hk : k = .hello
  · unfold State.startFrame
    rw [if_pos hk]
    exact line
  · have hup := h.resolve_left hk
    unfold State.startFrame
    rw [if_neg hk]
    exact line.trans (passing_withEngine rfl rfl id fun _ => by simp [hup])

theorem State.rejectSend_passing (s : State) : Passing s s.rejectSend := by
  unfold State.rejectSend
  split
  · next h =>
    obtain ⟨-, hup, -⟩ := h
    have owed : Passing s { s with engine := { s.engine with rejectOwed := false } } :=
      passing_withEngine rfl rfl id fun _ => hup
    exact owed.trans (State.startFrame_passing _ _ (.inr hup))
  · exact .refl s

theorem State.flowSend_passing (s : State) (which : FlowFrame) (kind : FrameType) (code : BitVec 4) :
    Passing s (s.flowSend which kind code) := by
  unfold State.flowSend
  split
  · next h =>
    obtain ⟨-, hup, -⟩ := h
    have owed : Passing s { s with engine := { s.engine with flowOwed := .none } } :=
      passing_withEngine rfl rfl id fun _ => hup
    exact owed.trans (State.startFrame_passing _ _ (.inr hup))
  · exact .refl s

theorem State.ackSend_passing (s : State) : Passing s s.ackSend := by
  unfold State.ackSend
  split
  · next h => exact State.startFrame_passing _ _ (.inr (State.mayAck_iff.mp h).2.1)
  · exact .refl s

theorem State.helloSend_passing (s : State) : Passing s s.helloSend := by
  unfold State.helloSend
  split
  · have due : Passing s { s with link := { s.link with helloDue := false } } :=
      passing_withLink .rfl .rfl fun ⟨hoff, hlost, hrest⟩ =>
        ⟨fun h => ⟨(hoff h).1, rfl⟩, fun h => ⟨(hlost h).1, rfl⟩, hrest⟩
    exact due.trans (State.startFrame_passing _ _ (.inl rfl))
  · exact .refl s

theorem seq_map_onLine (w : List WindowEntry) (n : Seq) :
    (w.map fun y => if y.seq = n then { y with onLine := true } else y).map (·.seq) = w.map (·.seq) := by
  rw [List.map_map]
  refine List.map_congr_left fun y _ => ?_
  dsimp only [Function.comp]
  split <;> rfl

theorem State.roundSend_passing (s : State) : Passing s s.roundSend := by
  unfold State.roundSend
  split
  · next h =>
    have hup := (State.mayResend_iff.mp h).2.1
    split
    · exact .refl s
    · split
      · next r _ _ x _ =>
        have moved : Passing s
            { s with
              engine :=
                { s.engine with
                  window := s.engine.window.map fun y => if y.seq = x.seq then { y with onLine := true } else y
                  retransCount := saturatingSucc s.engine.retransCount
                  round := s.engine.roundAfter r x.seq } } :=
          passing_withEngine (seq_map_onLine _ _) rfl id fun _ => hup
        exact moved.trans (State.startFrame_passing _ _ (.inr hup))
      · exact .refl s
  · exact .refl s

theorem State.restartIdleTimer_passing (s : State) : Passing s s.restartIdleTimer := by
  unfold State.restartIdleTimer
  split
  · next hup =>
    exact passing_withLink .rfl .rfl fun ⟨_, _, hrest⟩ =>
      ⟨fun h => absurd (hup.symm.trans h) nofun, fun h => absurd (hup.symm.trans h) nofun, hrest⟩
  · exact .refl s

theorem State.transmissionEnd_passing (s : State) : Passing s s.transmissionEnd := by
  unfold State.transmissionEnd
  split
  · exact .refl s
  · exact (s.endTransmission_still _).passing.trans (State.restartIdleTimer_passing _)

/-! ### An arbitration -/

theorem State.deferTo_still (s : State) (w : Port) : Still s (s.deferTo w) := .of_eq rfl rfl rfl rfl

/-- One more entry behind the window, under V(S) (R93). -/
theorem consecutiveFrom.append {w : List WindowEntry} {n last : Seq} (h : consecutiveFrom n w last) {e : WindowEntry}
    (he : e.seq = last) : consecutiveFrom n (w ++ [e]) (last + 1) := by
  induction w generalizing n with
  | nil =>
    obtain rfl : n = last := h
    exact ⟨he, rfl⟩
  | cons x w ih => exact ⟨h.1, ih h.2⟩

theorem Engine.va_append {e d : Engine} {x : WindowEntry} (hw : d.window = e.window ++ [x]) (hx : x.seq = e.vs) :
    d.va = e.va := by
  unfold Engine.va
  rw [hw]
  cases e.window with
  | nil => exact hx
  | cons y l => rfl

theorem State.ParameterLaw.w_le (h : s.ParameterLaw) : s.params.w ≤ 7 := (h 5 1 7 s.params.w rfl rfl).2

theorem State.admitToWindow_passing (w : Port) (hup : s.link.state = .up) (hroom : s.engine.window.length < s.params.w) :
    Passing s (s.admitToWindow w) := by
  unfold State.admitToWindow
  split
  · exact .refl s
  · next f rest _ =>
    refine Passing.trans (t := { s.modPort w fun ps => { ps with queue := rest } with
      engine :=
        { s.engine with
          window := s.engine.window ++ [s.entryOf w f], vs := s.engine.vs + 1, ackTimer := s.ackTimerOnEntry } })
      ⟨fun hp h => ?_, ?_, fun h => ⟨h.1, h.2.1, fun hnot => absurd hup hnot⟩, rfl⟩
      (State.startFrame_passing _ _ (.inr hup))
    · obtain ⟨-, hnumbers, -⟩ := h
      have hw := hp.w_le
      refine ⟨?_, ?_, fun hnot => absurd hup hnot⟩
      · show (s.engine.window ++ [s.entryOf w f]).length ≤ 7
        rw [List.length_append, List.length_singleton]
        omega
      · rw [Engine.va_append (e := s.engine) rfl rfl]
        exact hnumbers.append rfl
    · exact SameReception.law ⟨rfl, rfl, rfl, rfl, rfl, id, id⟩

theorem State.arbitrate_passing (s : State) : Passing s s.arbitrate := by
  unfold State.arbitrate
  split
  · next h =>
    obtain ⟨-, hup, -, hroom, -⟩ := State.mayArbitrate_iff.mp h
    split
    · next w _ => exact (s.deferTo_still w).passing.trans (State.admitToWindow_passing w hup hroom)
    · exact .refl s
  · exact .refl s

/-! ### Acknowledgement -/

theorem State.holdOnLine_still (s : State) (p : Port) (f : Frame) : Still s (s.holdOnLine p f) := by
  unfold State.holdOnLine
  split
  · exact withTx_still s _
  · exact s.freeFrame_still p f

theorem Still.halting (h : Still s t) (hs : s.engine.haltingPeer = false) : t.engine.haltingPeer = false := by
  obtain ⟨b, w, hengine, -⟩ := h.engine
  rw [hengine]
  exact Engine.letGo_haltingPeer_false hs

/-- An acknowledgement does not begin to halt the peer. -/
theorem State.ackHead_halting (h : s.engine.haltingPeer = false) : s.ackHead.engine.haltingPeer = false := by
  obtain ⟨-, e⟩ | ⟨x, rest, -, e⟩ := s.ackHead_cases
  · rw [e]
    exact h
  · have left : State.engine { s with engine := { s.engine with window := rest } } = { s.engine with window := rest } := rfl
    rw [e]
    dsimp only
    generalize ({ s with engine := { s.engine with window := rest } } : State) = v at left ⊢
    have paid : Still v (if x.onLine then v.holdOnLine x.owner x.frame else v.freeFrame x.owner x.frame) :=
      (v.holdOnLine_still _ _).ite (v.freeFrame_still _ _)
    refine Still.halting (paid.trans ((State.convertSlot_still _ _ _ _).ite (.refl _))) ?_
    rw [left]
    exact h

theorem State.acknowledge_halting (n : Seq) (h : s.engine.haltingPeer = false) :
    (s.acknowledge n).engine.haltingPeer = false := by
  have entries (k : Nat) : ∀ t : State, t.engine.haltingPeer = false → (t.ackEntries k).engine.haltingPeer = false := by
    induction k with
    | zero => exact fun _ => id
    | succ k ih => exact fun t ht => ih _ (State.ackHead_halting ht)
  obtain ⟨timer, round, e⟩ := s.acknowledge_cases n
  rw [e]
  exact entries _ s h

theorem State.acknowledge_sameReception (s : State) (n : Seq) : SameReception s (s.acknowledge n) := by
  have hframer := (s.acknowledge_receptionKept n).framer
  refine ⟨?_, ?_, ?_, ?_, ?_, ?_, State.acknowledge_halting n⟩
  case refine_6 => simp
  all_goals rw [hframer]

theorem State.acknowledge_passing {n : Seq} (hup : s.link.state = .up) (hn : s.engine.acceptable n = true) :
    Passing s (s.acknowledge n) where
  window _ h := h.acknowledge hn
  reception := (s.acknowledge_sameReception n).law
  line := by
    rintro ⟨htimers, ⟨hrx, hwatch, hcut⟩, -⟩
    have hlink := s.acknowledge_link n
    have hframer := (s.acknowledge_receptionKept n).framer
    generalize s.acknowledge n = t at *
    refine ⟨?_, ⟨?_, ?_, ?_⟩, fun hnot => absurd (hlink ▸ hup) hnot⟩
    · unfold State.LinkTimerLaw
      rw [hlink]
      exact htimers
    · rw [hframer, hlink]
      exact hrx
    · rw [hframer, hlink]
      exact hwatch
    · rw [hframer]
      exact hcut
  params := s.acknowledge_params n

/-! ### Retransmission -/

theorem Engine.bumpRetry_seq (e : Engine) (n : Seq) : (e.bumpRetry n).window.map (·.seq) = e.window.map (·.seq) := by
  unfold Engine.bumpRetry
  rw [List.map_map]
  refine List.map_congr_left fun y _ => ?_
  dsimp only [Function.comp]
  split <;> rfl

theorem State.retryFrom_passing (n : Seq) (hup : s.LineLaws → s.link.state = .up) : Passing s (s.retryFrom n) := by
  unfold State.retryFrom
  split
  · exact State.leaveUp_passing .retryLimit hup
  · exact passing_withEngine (s.engine.bumpRetry_seq n) rfl id hup

end

end Sys2Proof.Machine
end

section
/-! SUPPORT. The timers and the receive line keep what link, timers, receiver, window and engine agree on. -/

namespace Sys2Proof.Machine

section
variable {s t u : State}

/-! ### The timers -/

theorem State.helloExpiry_passing (s : State) : Passing s s.helloExpiry := by
  unfold State.helloExpiry
  split
  · exact .refl s
  · next htimer =>
    refine passing_withLink .rfl .rfl fun ⟨hoff, hlost, hrest⟩ => ⟨fun h => ?_, fun h => ?_, hrest⟩
    · rw [(hoff h).1] at htimer
      cases htimer
    · rw [(hlost h).1] at htimer
      cases htimer

theorem State.missedInterval_passing (s : State) : Passing s s.missedInterval := by
  have missed : Passing s { s with link := { s.link with lossCount := s.link.lossCount + 1 } } :=
    passing_withLink .rfl .rfl id
  unfold State.missedInterval
  dsimp only
  split
  · split
    · next hconfirming => exact missed.trans (State.enterSeeking_passing (by simp [hconfirming]) (by simp [hconfirming]))
    · next hup => exact missed.trans (State.leaveUp_passing _ fun _ => hup)
    all_goals exact missed
  · exact missed

theorem State.intervalExpiry_passing (s : State) : Passing s s.intervalExpiry := by
  unfold State.intervalExpiry
  split
  · exact .refl s
  · next htimer =>
    have again (heard : Bool) (count : Nat) : Passing s
        { s with
          link := { s.link with intervalTimer := .running s.params.tHello, heard := heard, lossCount := count } } :=
      passing_withLink .rfl .rfl fun ⟨hoff, hlost, hinterval, hrest⟩ => by
        refine ⟨hoff, hlost, ?_, hrest⟩
        rw [htimer] at hinterval
        simpa using hinterval
    dsimp only
    split
    · exact again false 0
    · exact (again s.link.heard s.link.lossCount).trans (State.missedInterval_passing _)

theorem State.holdOffExpiry_passing (s : State) : Passing s s.holdOffExpiry := by
  unfold State.holdOffExpiry
  split
  · exact .refl s
  · split
    · next hlost => exact State.enterSeeking_passing (by simp [hlost]) (by simp [hlost])
    · exact .refl s

theorem State.flushTimerExpiry_passing (s : State) : Passing s s.flushTimerExpiry := by
  unfold State.flushTimerExpiry
  split
  · exact .refl s
  · next htimer => exact State.flushExpiry_passing fun ⟨_, _, _, _, hflush, _⟩ => hflush (by simp [htimer])

theorem State.ackTimerExpiry_passing (s : State) : Passing s s.ackTimerExpiry := by
  unfold State.ackTimerExpiry
  split
  · next htimer _ =>
    refine State.retryFrom_passing _ fun h => h.up_of_engine fun hquiet => ?_
    rw [hquiet] at htimer
    cases htimer
  · exact .refl s

theorem State.ackDelayExpiry_passing (s : State) : Passing s s.ackDelayExpiry := by
  unfold State.ackDelayExpiry
  split
  · next htimer =>
    refine passing_withEngine rfl rfl id fun h => h.up_of_engine fun hquiet => ?_
    rw [hquiet] at htimer
    cases htimer
  · exact .refl s
  · exact .refl s

theorem State.haltTimerExpiry_passing (s : State) : Passing s s.haltTimerExpiry := by
  unfold State.haltTimerExpiry
  split
  · next htimer =>
    refine State.leaveUp_passing _ fun h => h.up_of_engine fun hquiet => ?_
    rw [hquiet] at htimer
    cases htimer
  · exact .refl s

/-! ### The receiver alone -/

/-- A change of the receiver's registers. -/
theorem passing_withFramer {f : Framer} (hreception : s.ReceptionLaw → State.ReceptionLaw { s with framer := f })
    (hreceiver : s.ReceiverLaw → State.ReceiverLaw { s with framer := f }) : Passing s { s with framer := f } where
  window _ h := h
  reception := hreception
  line h := ⟨h.1, hreceiver h.2.1, h.2.2⟩
  params := rfl

theorem State.clockSeen_passing (s : State) : Passing s { s with framer := s.framer.clockSeen } := by
  refine passing_withFramer (SameReception.law ⟨rfl, rfl, rfl, rfl, rfl, id, id⟩) fun ⟨hrx, hwatch, _⟩ => ⟨hrx, ?_, nofun⟩
  unfold Framer.clockSeen
  dsimp only
  rw [← hwatch]
  cases s.framer.watch <;> simp

/-- The receiver BETWEEN: a marker has been found, or has ended DISCARDING (R58, R71). -/
theorem foundMarker_passing (h : s.framer.rxState = .hunting ∨ s.framer.rxState = .discarding) (hcut : s.framer.cut = false) :
    Passing s { s with framer := { s.framer with rxState := .between } } := by
  refine passing_withFramer (fun hlaw => receptionLaw_of_idle nofun (hlaw.stored_eq_nil ?_))
    fun ⟨hrx, hwatch, _⟩ => ⟨?_, hwatch, fun h => ?_⟩
  · obtain h | h := h <;> simp [h]
  · have hon : s.link.state ≠ .off := fun hoff => by
      rw [hrx.mpr hoff] at h
      obtain h | h := h <;> cases h
    simp [hon]
  · exact absurd h (by simp [hcut])

theorem State.markerFound_passing (s : State) : Passing s s.markerFound := by
  unfold State.markerFound
  split
  · next h => exact s.clockSeen_passing.trans (foundMarker_passing (.inl h) rfl)
  · next h => exact s.clockSeen_passing.trans (foundMarker_passing (.inr h) rfl)
  · exact .refl s

theorem State.silent_passing (s : State) (hwatch : s.framer.watch = .running) : Passing s s.silent := by
  have hunts {t : State} (c : Bool) (hrunning : t.framer.watch = .running) (hstored : t.ReceptionLaw → t.framer.stored = []) :
      Passing t { t with framer := { t.framer with rxState := .hunting, watch := .reported, cut := c } } := by
    refine passing_withFramer (fun h => receptionLaw_of_idle nofun (hstored h)) fun ⟨_, hon, _⟩ => ?_
    have hon : t.link.state ≠ .off := fun hoff => by
      rw [hon.mpr hoff] at hrunning
      cases hrunning
    exact ⟨by simp [hon], by simp [hon], fun _ => rfl⟩
  rw [← State.cutOff_hunting]
  obtain ⟨hidle, h⟩ | ⟨-, h⟩ := s.cutOff_cases .hunting
  · rw [h]
    exact hunts _ hwatch fun hlaw => hlaw.stored_eq_nil hidle
  · rw [h]
    refine s.releaseInbound_still.passing.trans (hunts _ ?_ fun _ => ?_)
    · rw [s.releaseInbound_still.watch, hwatch]
    · rw [s.releaseInbound_line.1]

theorem State.silence_passing (s : State) : Passing s s.silence := by
  by_cases hwatch : s.framer.watch = .running
  · have silent := s.silent_passing hwatch
    have hlink := s.silent_kept.1
    rw [State.silence_of_running hwatch]
    split
    · next hup => exact silent.trans (State.leaveUp_passing _ fun _ => by rw [hlink, hup])
    · split
      · next hconfirming =>
        exact silent.trans (State.enterSeeking_passing (by simp [hlink, hconfirming]) (by simp [hlink, hconfirming]))
      · exact silent
  · rw [State.silence_of_not_running hwatch]
    exact .refl s

end

end Sys2Proof.Machine
end

section
/-! SUPPORT. Octets, closing markers and the frames they hand on keep what link, timers, receiver, window and engine
agree on. -/

namespace Sys2Proof.Machine

section
variable {s t u : State}

/-! ### Changes after which nothing is in reception -/

/-- The laws on window and line pass from s to t. -/
structure Moving (s t : State) : Prop where
  window : s.ParameterLaw → s.WindowLaw → t.WindowLaw
  line : s.LineLaws → t.LineLaws
  params : t.params = s.params

/-- They do, and t keeps the law on storage whatever s stored. -/
structure Settled (s t : State) : Prop extends Moving s t where
  law : t.ReceptionLaw

theorem Passing.moving (h : Passing s t) : Moving s t := ⟨h.window, h.line, h.params⟩

theorem Settled.passing (h : Settled s t) : Passing s t := ⟨h.window, fun _ => h.law, h.line, h.params⟩

theorem Moving.settled (h : Moving s t) (h' : Settled t u) : Settled s u :=
  ⟨⟨fun hp hw => h'.window (hp.of_eq h.params) (h.window hp hw), h'.line ∘ h.line, h'.params.trans h.params⟩, h'.law⟩

theorem Settled.passes (h : Settled s t) (h' : Passing t u) : Settled s u :=
  ⟨⟨fun hp hw => h'.window (hp.of_eq h.params) (h.window hp hw), h'.line ∘ h.line, h'.params.trans h.params⟩,
    h'.reception h.law⟩

theorem moving_withFramer {f : Framer} (h : s.ReceiverLaw → State.ReceiverLaw { s with framer := f }) :
    Moving s { s with framer := f } := ⟨fun _ hw => hw, fun hl => ⟨hl.1, h hl.2.1, hl.2.2⟩, rfl⟩

theorem State.releaseInbound_settled (h : s.framer.rxState ≠ .receiving) : Settled s s.releaseInbound :=
  ⟨s.releaseInbound_still.passing.moving, receptionLaw_of_idle (by rwa [s.releaseInbound_still.rxState])
    (by rw [s.releaseInbound_line.1])⟩

theorem State.invalidFrame_settled (h : s.framer.rxState ≠ .receiving) : Settled s s.invalidFrame :=
  (State.releaseInbound_settled h).passes
    (passing_withFramer (SameReception.law ⟨rfl, rfl, rfl, rfl, rfl, id, id⟩) id)

/-! ### Delivery -/

theorem State.deliver_still (s : State) (f : Frame) (targets : HostSet) (source : Source) (first : Option Nat)
    (sender : Option Port) : Still s (s.deliver f targets source first sender) := by
  have hsettled := (s.settledAccount_eq f targets sender).1
  have settled : Still s (s.settledAccount f targets sender) := by
    rw [hsettled]
    exact .of_eq rfl rfl rfl rfl
  refine (settled.trans (State.settlePool_still _)).trans ?_
  rw [(s.deliver_eq f targets source first sender).1]
  exact .of_eq rfl rfl rfl rfl

theorem State.unclaimedFrame_still (s : State) (f : Frame) : Still s (s.unclaimedFrame f) := by
  have refunded : Still s (s.refundAccount none f) := by
    rw [State.refundAccount_eq]
    exact .of_eq rfl rfl rfl rfl
  have counted : Still s
      { (s.refundAccount none f).settlePool with
        classifier :=
          { (s.refundAccount none f).settlePool.classifier with
            unclaimed := saturatingSucc (s.refundAccount none f).settlePool.classifier.unclaimed } } :=
    (refunded.trans (State.settlePool_still _)).trans (.of_eq rfl rfl rfl rfl)
  unfold State.unclaimedFrame
  dsimp only
  split
  · exact counted.trans (State.modPort_still _ _ _)
  · exact counted

theorem State.classify_still (s : State) (f : Frame) (address : Word) : Still s (s.classify f address) := by
  have scanned : Still s (s.scanned address) := .of_eq rfl rfl rfl rfl
  by_cases h : (scanFrom address 0 s.classifier.active).hosts = 0#4
  · by_cases hdefault : s.params.defaultHostSet = 0#4
    · rw [State.classify_of_unclaimed f h hdefault]
      exact scanned.trans (State.unclaimedFrame_still _ _)
    · rw [State.classify_of_default f h hdefault]
      exact scanned.trans (State.deliver_still _ _ _ _ _ _)
  · rw [State.classify_of_claimed f h]
    exact scanned.trans (State.deliver_still _ _ _ _ _ _)

/-! ### Octets of a frame -/

theorem State.grantInbound_still (s : State) : Still s s.grantInbound := by
  unfold State.grantInbound
  dsimp only
  refine Still.trans ?_ (State.settlePool_still _)
  exact .of_eq rfl rfl rfl rfl

/-- The octets of an admitted frame in reception are stored (R70). -/
theorem State.keepOctet_passing (b : Byte) (hrx : s.framer.rxState = .receiving)
    (hadmitted : s.framer.admission = .admitted) :
    Passing s (s.keepOctet b) :=
  passing_withFramer (fun ⟨_, hadmission, hnot⟩ => ⟨fun _ => ⟨hrx, hadmitted⟩, hadmission, hnot⟩) id

theorem State.abandonFrame_passing (hup : s.link.state = .up) (hcount : 4 ≤ s.framer.count) : Passing s s.abandonFrame := by
  refine s.releaseInbound_still.passing.trans ⟨fun _ h => h.of_seq rfl rfl id, fun _ => ⟨fun h => ?_, nofun, fun _ h => ?_⟩,
    fun h => ⟨h.1, h.2.1, fun hnot => absurd ?_ hnot⟩, rfl⟩
  · exact absurd (show s.releaseInbound.framer.stored = [] by rw [s.releaseInbound_line.1]) h
  · have hsame : s.releaseInbound.framer.count = s.framer.count := by rw [s.releaseInbound_line.1]
    exact absurd h (not_lt.mpr (hsame ▸ hcount))
  · show s.releaseInbound.link.state = .up
    rw [s.releaseInbound_still.link, hup]

theorem State.storeOctet_passing (b : Byte) (hrx : s.framer.rxState = .receiving) (hadmitted : s.framer.admission = .admitted)
    (hup : s.link.state = .up) (hcount : 4 ≤ s.framer.count) : Passing s (s.storeOctet b) := by
  have hframer : s.grantInbound.framer = s.framer := by
    unfold State.grantInbound
    simp
  unfold State.storeOctet
  split_ifs
  · exact s.grantInbound_still.passing.trans
      (State.keepOctet_passing b (by rw [hframer, hrx]) (by rw [hframer, hadmitted]))
  · exact State.abandonFrame_passing hup hcount
  · exact State.keepOctet_passing b hrx hadmitted

theorem withHold_passing (s : State) (l : List Byte) : Passing s { s with framer := { s.framer with hold := l } } :=
  passing_withFramer (SameReception.law ⟨rfl, rfl, rfl, rfl, rfl, id, id⟩) id

theorem State.holdOctet_passing (b : Byte) (hlaw : s.ReceptionLaw) (hrx : s.framer.rxState = .receiving)
    (hcount : 4 ≤ s.framer.count) : Passing s (s.holdOctet b) := by
  unfold State.holdOctet
  split
  · dsimp only
    split
    · next hadmitted =>
      exact (withHold_passing s _).trans
        (State.storeOctet_passing _ hrx hadmitted (hlaw.2.1 hrx hadmitted).2.1 hcount)
    · exact withHold_passing s _
  · exact withHold_passing s _

/-- The type of a frame does not change once its first octet is in. -/
theorem Framer.type?_takeOctet {f : Framer} {x : FrameType} (h : f.type? = some x) (b : Byte) :
    (f.takeOctet b).type? = some x := by
  unfold Framer.type? Framer.takeOctet at *
  dsimp only
  cases hheader : f.header with
  | nil => simp [hheader] at h
  | cons a l =>
    rw [hheader] at h
    split
    · exact h
    · exact h

theorem takeOctet_passing (s : State) (b : Byte) : Passing s { s with framer := s.framer.takeOctet b } := by
  refine passing_withFramer (fun ⟨hstored, hadmitted, hnot⟩ => ⟨hstored, fun hr ha => ?_, fun hr hc => ?_⟩) id
  · obtain ⟨htype, hrest⟩ := hadmitted hr ha
    exact ⟨Framer.type?_takeOctet htype b, hrest⟩
  · exact hnot hr ((Nat.lt_succ_self _).trans hc)

/-- Before the fourth octet nothing is stored, so that the admission may be judged (R70). -/
theorem judged_passing (b : Byte) (hlaw : s.ReceptionLaw) (hrx : s.framer.rxState = .receiving)
    (htype : (s.framer.takeOctet b).type? = some .data) (hcount : (s.framer.takeOctet b).count = 4) :
    Passing s (State.judgeAdmission { s with framer := s.framer.takeOctet b }) := by
  have hfew : s.framer.count < 4 := Nat.lt_of_succ_le (Nat.le_of_eq hcount)
  have hempty : s.framer.stored = [] := by
    by_contra hstored
    have hadmitted := (hlaw.1 hstored).2
    rw [hlaw.2.2 hrx hfew] at hadmitted
    cases hadmitted
  rw [State.judgeAdmission_eq]
  refine passing_withFramer (fun _ => ⟨fun h => absurd hempty h, fun _ ha => ⟨htype, ?_⟩, fun _ h => ?_⟩) id
  · dsimp only at ha
    split at ha
    · next h => exact ⟨h.1, h.2.2⟩
    · cases ha
  · exact absurd h (not_lt.mpr hcount.ge)

theorem State.frameOctet_passing (b : Byte) (hlaw : s.ReceptionLaw) (hrx : s.framer.rxState = .receiving) :
    Passing s (s.frameOctet b) := by
  have taken := takeOctet_passing s b
  rw [State.frameOctet_eq]
  dsimp only
  split_ifs with hlong htype hfour hmore
  · refine (Moving.settled (moving_withFramer fun ⟨hignoring, hwatch, _⟩ => ⟨?_, hwatch, fun _ => rfl⟩)
      (State.invalidFrame_settled (by simp))).passing
    have hon : s.link.state ≠ .off := fun hoff => by
      rw [hignoring.mpr hoff] at hrx
      cases hrx
    simp [hon]
  · exact judged_passing b hlaw hrx htype hfour
  · exact taken.trans (State.holdOctet_passing b (taken.reception hlaw) hrx hmore.le)
  · exact taken
  · exact taken

theorem withEscape_passing (s : State) (esc bad : Bool) :
    Passing s { s with framer := { s.framer with escPending := esc, badEscape := bad } } :=
  passing_withFramer (SameReception.law ⟨rfl, rfl, rfl, rfl, rfl, id, id⟩) id

theorem State.frameLineOctet_passing (o : Byte) (hlaw : s.ReceptionLaw) (hrx : s.framer.rxState = .receiving) :
    Passing s (s.frameLineOctet o) := by
  unfold State.frameLineOctet
  split_ifs
  · have unescaped := withEscape_passing s false (s.framer.badEscape || (o != 0xE9#8 && o != 0xE8#8))
    exact unescaped.trans (State.frameOctet_passing _ (unescaped.reception hlaw) hrx)
  · exact withEscape_passing s true s.framer.badEscape
  · exact State.frameOctet_passing o hlaw hrx

/-- A frame starts: nothing of it is admitted or stored (R59). -/
theorem startReception_passing (hbetween : s.framer.rxState = .between) (hcut : s.framer.cut = false) :
    Passing s { s with framer := s.framer.startReception } := by
  refine passing_withFramer (fun _ => ⟨fun h => absurd rfl h, nofun, fun _ _ => rfl⟩)
    fun ⟨hignoring, hwatch, _⟩ => ⟨?_, hwatch, fun h => ?_⟩
  · rw [hbetween] at hignoring
    simpa [Framer.startReception] using hignoring
  · exact absurd h (by simp [Framer.startReception, hcut])

/-! ### Frames handed on -/

theorem State.confirm_passing (hconfirming : s.link.state = .confirming) : Passing s s.confirm := by
  have counted : Passing s { s with link := { s.link with confCount := s.link.confCount + 1 } } :=
    passing_withLink .rfl .rfl id
  unfold State.confirm
  dsimp only
  split
  · exact counted.trans (State.enterUp_passing hconfirming)
  · exact counted

theorem State.oweAck_passing (hup : s.link.state = .up) : Passing s s.oweAck := by
  unfold State.oweAck
  split
  · exact .refl s
  · exact passing_withEngine rfl rfl id fun _ => hup

theorem State.oweReject_passing (hup : s.link.state = .up) : Passing s s.oweReject := by
  unfold State.oweReject
  split
  · exact .refl s
  · exact passing_withEngine rfl rfl id fun _ => hup

theorem State.acceptFrame_settled (hup : s.link.state = .up) (hrx : s.framer.rxState ≠ .receiving) :
    Settled s s.acceptFrame := by
  have taken : Settled s
      { s with
        framer := { s.framer with stored := [] }
        pool := { s.pool with inboundCells := [] }
        engine := { s.engine with vr := s.engine.vr + 1, rejectOutstanding := false, rejectOwed := false } } :=
    ⟨⟨fun _ h => h.of_seq rfl rfl id, fun h => ⟨h.1, h.2.1, fun hnot => absurd hup hnot⟩, rfl⟩, receptionLaw_of_idle hrx rfl⟩
  exact (taken.passes (State.oweAck_passing hup)).passes (State.classify_still _ _ _).passing

theorem State.discardData_settled (hup : s.link.state = .up) (hrx : s.framer.rxState ≠ .receiving) :
    Settled s s.discardData := by
  have released := State.releaseInbound_settled hrx
  have hlink : s.releaseInbound.link.state = .up := by rw [s.releaseInbound_still.link, hup]
  unfold State.discardData
  dsimp only
  split_ifs
  · exact released.passes (State.oweAck_passing hlink)
  · exact released.passes (State.oweReject_passing hlink)
  · exact released
  · exact released.passes (passing_withEngine rfl rfl id fun _ => hlink)
  · exact released.passes (State.oweReject_passing hlink)

theorem State.dataInUp_settled (hup : s.link.state = .up) (hrx : s.framer.rxState ≠ .receiving) : Settled s s.dataInUp := by
  unfold State.dataInUp
  split
  · exact State.acceptFrame_settled hup hrx
  · exact State.discardData_settled hup hrx

theorem State.rejectInUp_passing (n : Seq) (hup : s.link.state = .up) : Passing s (s.rejectInUp n) := by
  unfold State.rejectInUp
  split_ifs
  · exact .refl s
  · exact .refl s
  · exact .refl s
  · exact State.retryFrom_passing n fun _ => hup

theorem State.haltInUp_passing (hup : s.link.state = .up) : Passing s s.haltInUp :=
  passing_withEngine rfl rfl id fun _ => hup

theorem State.goInUp_passing (hup : s.link.state = .up) : Passing s s.goInUp := by
  rw [State.goInUp_eq]
  exact passing_withEngine rfl rfl id fun _ => hup

/-- Nothing is stored of a closed frame of another type than DATA. -/
def State.NoneStored (s : State) (k : FrameType) : Prop :=
  s.framer.rxState ≠ .receiving ∧ (k ≠ .data → s.framer.stored = [])

theorem State.NoneStored.law {k : FrameType} (h : s.NoneStored k) (hk : k ≠ .data) : s.ReceptionLaw :=
  receptionLaw_of_idle h.1 (h.2 hk)

theorem State.frameInUp_settled {k : FrameType} (h : s.NoneStored k) (hup : s.link.state = .up) :
    Settled s (s.frameInUp k) := by
  unfold State.frameInUp
  dsimp only
  split
  · next hn =>
    have acked : Passing s (s.hear.acknowledge s.framer.ackField) :=
      s.hear_passing.trans (State.acknowledge_passing hup hn)
    have same := s.hear.acknowledge_sameReception s.framer.ackField
    have hlink : (s.hear.acknowledge s.framer.ackField).link.state = .up := same.up hup
    have settled (hk : k ≠ .data) : Settled s (s.hear.acknowledge s.framer.ackField) :=
      ⟨acked.moving, acked.reception (h.law hk)⟩
    cases k with
    | data =>
      refine acked.moving.settled (State.dataInUp_settled hlink ?_)
      rw [same.rxState]
      exact h.1
    | ack => exact settled nofun
    | reject => exact (settled nofun).passes (State.rejectInUp_passing _ hlink)
    | halt => exact (settled nofun).passes (State.haltInUp_passing hlink)
    | go => exact (settled nofun).passes (State.goInUp_passing hlink)
    | hello => exact settled nofun
  · exact State.invalidFrame_settled h.1

theorem withPeer_passing (s : State) (b : Option Byte) (n : Nat) (heard : Bool) :
    Passing s { s with link := { s.link with peer := b, confCount := n, heard := heard } } := passing_withLink .rfl .rfl id

theorem State.helloInUp_passing (hup : s.link.state = .up) : Passing s s.helloInUp := by
  unfold State.helloInUp
  dsimp only
  split_ifs
  · exact State.leaveUp_passing _ fun _ => hup
  · exact (withPeer_passing s (some s.framer.stationField) s.link.confCount s.link.heard).trans
      (State.leaveUp_passing _ fun _ => hup)
  · exact s.hear_passing
  · exact State.leaveUp_passing _ fun _ => hup

theorem State.helloInConfirming_passing (hconfirming : s.link.state = .confirming) : Passing s s.helloInConfirming := by
  unfold State.helloInConfirming
  dsimp only
  split_ifs
  · exact State.loopedBack_passing (.inr hconfirming)
  · exact withPeer_passing s (some s.framer.stationField) 0 true
  · exact s.hear_passing.trans (State.confirm_passing hconfirming)
  · exact withPeer_passing s s.link.peer 0 true

theorem State.helloInSeeking_passing (hseeking : s.link.state = .seeking) : Passing s s.helloInSeeking := by
  unfold State.helloInSeeking
  dsimp only
  split_ifs
  · exact State.loopedBack_passing (.inl hseeking)
  · exact State.enterConfirming_passing _ hseeking

theorem State.handOnHello_passing (s : State) : Passing s s.handOnHello := by
  unfold State.handOnHello
  split
  · exact .refl s
  · next h => exact State.helloInSeeking_passing h
  · next h => exact State.helloInConfirming_passing h
  · next h => exact State.helloInUp_passing h
  · exact .refl s

theorem State.handOnFrame_settled {k : FrameType} (h : s.NoneStored k) : Settled s (s.handOnFrame k) := by
  have released := State.releaseInbound_settled h.1
  unfold State.handOnFrame
  split
  · exact released
  · exact released
  · next hconfirming =>
    refine (released.passes (State.hear_passing _)).passes (State.confirm_passing ?_)
    show s.releaseInbound.link.state = .confirming
    rw [s.releaseInbound_still.link, hconfirming]
  · next hup => exact State.frameInUp_settled h hup
  · exact released

/-! ### The closing marker -/

/-- The receiver BETWEEN after a closing marker (R59). -/
def State.closedBy (s : State) : State :=
  { s with framer := { s.framer with rxState := .between, escPending := false } }

/-- A closing marker is not seen by a receiver that ignores the line (R58). -/
theorem closedBy_moving (h : s.ReceiverLaw → s.link.state ≠ .off) :
    Moving s (State.closedBy { s with framer := s.framer.clockSeen }) := by
  refine moving_withFramer fun hlaw => ⟨?_, ?_, nofun⟩
  · simp [h hlaw]
  · obtain ⟨-, hwatch, -⟩ := hlaw
    dsimp only [Framer.clockSeen]
    rw [← hwatch]
    cases s.framer.watch <;> simp

theorem State.closeFrame_settled (hlaw : s.ReceptionLaw) (closed : Moving t s.closedBy) : Settled t s.closeFrame := by
  have noneStored {k : FrameType} (htype : s.framer.type? = some k) :
      s.closedBy.NoneStored k := by
    refine ⟨nofun, fun hk => ?_⟩
    by_contra hstored
    obtain ⟨hr, ha⟩ := hlaw.1 hstored
    exact hk (Option.some.inj (htype.symm.trans (hlaw.2.1 hr ha).1))
  unfold State.closeFrame
  dsimp only
  split
  · split
    · next htype =>
      have settled : Settled t s.closedBy := ⟨closed, (noneStored htype).law nofun⟩
      exact settled.passes (State.handOnHello_passing _)
    · next k htype _ => exact closed.settled (State.handOnFrame_settled (noneStored ‹_›))
    · exact closed.settled (State.invalidFrame_settled nofun)
  · exact closed.settled (State.invalidFrame_settled nofun)

theorem State.closeOf_passing (k : Option FrameType) (hlaw : s.ReceptionLaw) : Passing s (s.closeOf k) := by
  unfold State.closeOf
  split
  · next h =>
    refine (State.closeFrame_settled (s.clockSeen_passing.reception hlaw) (closedBy_moving fun hreceiver hoff => ?_)).passing
    have hignoring := hreceiver.1.mpr hoff
    obtain ⟨hrx, -⟩ | ⟨-, hhello⟩ := h
    · rw [hignoring] at hrx
      cases hrx
    · obtain ⟨⟨hcut, -⟩, -⟩ : (s.framer.cut = true ∧ _) ∧ _ := by simpa [Framer.helloCutOff] using hhello
      have hhunting := hreceiver.2.2 hcut
      rw [hignoring] at hhunting
      cases hhunting
  · exact s.markerFound_passing

theorem State.lineOctet_passing (o : Byte) (hlaw : s.ReceptionLaw) : Passing s (s.lineOctet o) := by
  have clocked := s.clockSeen_passing
  have hclocked := clocked.reception hlaw
  unfold State.lineOctet
  dsimp only
  split
  · exact .refl s
  · next h =>
    split
    · exact clocked.trans (foundMarker_passing (.inl h) rfl)
    · exact clocked
  · next h =>
    split
    · exact clocked.trans (foundMarker_passing (.inr h) rfl)
    · exact clocked
  · next h =>
    split
    · exact clocked
    · have started := clocked.trans (startReception_passing h rfl)
      exact started.trans (State.frameLineOctet_passing o (started.reception hlaw) rfl)
  · next h =>
    split
    · refine (State.closeFrame_settled hclocked (closedBy_moving fun hreceiver hoff => ?_)).passing
      have hignoring := hreceiver.1.mpr hoff
      rw [hignoring] at h
      cases h
    · exact clocked.trans (State.frameLineOctet_passing o hclocked h)

end

end Sys2Proof.Machine
end

section
/-! SUPPORT. Every step keeps what link, timers, receiver, window and engine agree on. -/

namespace Sys2Proof.Machine

section
variable {p : Port} {s t u : State}

/-! ### Commands -/

theorem State.dropReference_still (s : State) (p : Port) (n : Nat) : Still s (s.dropReference p n) := by
  obtain ⟨-, e⟩ | ⟨f, -, ⟨-, e⟩ | ⟨r, -, -, e⟩ | e⟩ := s.dropReference_cases p n <;> rw [e]
  · exact .refl s
  · exact .of_eq rfl rfl rfl rfl
  · exact .of_eq rfl rfl rfl rfl
  · exact .of_eq rfl rfl rfl rfl

theorem State.endHolding_still (s : State) (expired : Bool) : Still s (s.endHolding expired) := by
  have told (h : Port) : Still s
      (if expired then State.raise { s with classifier := s.classifier.revert } h .leaseLost
        else { s with classifier := s.classifier.revert }) := by
    split <;> exact .of_eq rfl rfl rfl rfl
  unfold State.endHolding
  split
  · exact .refl s
  · dsimp only
    split
    · exact (told _).trans (.of_eq rfl rfl rfl rfl)
    · exact (told _).trans (.of_eq rfl rfl rfl rfl)

theorem State.orphan_still (s : State) (p : Port) : Still s (s.orphan p) := by
  refine ⟨rfl, rfl, rfl, rfl, rfl, SameReception.law ⟨rfl, rfl, rfl, rfl, rfl, id, id⟩, false, _,
    by rw [Engine.letGo_false]; rfl, ?_⟩
  rw [List.map_map]
  refine List.map_congr_left fun e _ => ?_
  dsimp only [Function.comp]
  split <;> rfl

theorem State.portReset_still (s : State) (p : Port) : Still s (s.portReset p).state := by
  have frames : Still s (s.resetFrames p) := .of_eq rfl rfl rfl rfl
  have lists : Still s (((s.resetFrames p).orphan p).resetLists p) :=
    ((frames.trans (State.orphan_still _ p)).trans (State.modPort_still _ p _)).trans
      (Still.foldl (fun t (r : RxRecord) => t.dropReference_still p r.frame) _ _)
  have lease : Still s ((((s.resetFrames p).orphan p).resetLists p).resetLease p) := by
    refine lists.trans ?_
    unfold State.resetLease
    split
    · exact State.endHolding_still _ false
    · exact .of_eq rfl rfl rfl rfl
  unfold State.portReset
  dsimp only
  exact (lease.trans (State.settlePool_still _)).trans (State.modPort_still _ p _)

theorem State.resumePeer_still (s : State) : Still s s.resumePeer := by
  unfold State.resumePeer
  split
  · next h =>
    exact .of_engine (b := true) rfl rfl rfl (by simp [Engine.letGo, h.1])
  · exact .refl s

theorem State.afterParameter_still (s : State) (n : Nat) : Still s (s.afterParameter n) := by
  obtain e | e | e := s.afterParameter_cases n <;> rw [e]
  · exact .refl s
  · exact s.resumePeer_still
  · exact .of_eq rfl rfl rfl rfl

theorem State.deliverLocal_still (s : State) (p : Port) (f : Frame) (targets : HostSet) :
    Still s (s.deliverLocal p f targets) := by
  unfold State.deliverLocal
  dsimp only
  exact (s.deliver_still f targets (.fromPort p) none (some p)).trans (State.modPort_still _ p _)

theorem State.tableCommit_still (s : State) : Still s s.tableCommit := by
  obtain e | e := s.tableCommit_cases <;> rw [e]
  · exact .refl s
  · exact .of_eq rfl rfl rfl rfl

/-- Every command but SET PARAMETER passes the laws on. -/
theorem CommandEffect.passing {managed : Bool} (h : CommandEffect p s managed t) :
    Passing s t ∨ ∃ n lo hi v, paramRange n = some (lo, hi) ∧ (lo ≤ v ∧ v ≤ hi) ∧
      t = State.afterParameter { s with params := s.params.write n v } n := by
  have still {t : State} (h : Still s t) : Passing s t ∨ ∃ n lo hi v, paramRange n = some (lo, hi) ∧ (lo ≤ v ∧ v ≤ hi) ∧
      t = State.afterParameter { s with params := s.params.write n v } n := .inl h.passing
  have kept {t : State} (hparams : t.params = s.params) (hlink : t.link = s.link) (hframer : t.framer = s.framer)
      (hengine : t.engine = s.engine) := still (.of_eq hparams hlink hframer hengine)
  cases h
  case answered => exact .inl (.refl s)
  case portReset => exact still (s.portReset_still p)
  case openFrame =>
    refine still (Still.trans ?_ (State.settlePool_still _))
    exact .of_eq rfl rfl rfl rfl
  case commitTrunk => exact kept rfl rfl rfl rfl
  case commitLocal => exact still (s.deliverLocal_still p _ _)
  case discardFrame => exact still ((s.modPort_still p _).trans (State.freeFrame_still _ p _))
  case cancel => exact still ((s.modPort_still p _).trans (State.freeFrame_still _ p _))
  case releaseRecord =>
    exact still ((((s.modPort_still p _).trans (State.dropReference_still _ p _)).trans (State.settlePool_still _)).trans
      (State.modPort_still _ p _))
  case releaseLease => exact still (s.endHolding_still false)
  case setQuota => exact still ((s.modPort_still _ _).trans (State.settlePool_still _))
  case setParameter n v lo hi _ hrange hvalue => exact .inr ⟨n, lo, hi, v, hrange, hvalue, rfl⟩
  case tableCommit => exact still s.tableCommit_still
  case trunkOn => exact .inl s.trunkOn_passing
  case trunkOff => exact .inl s.trunkOff_passing
  all_goals exact kept rfl rfl rfl rfl

theorem TxnMoved.still (h : TxnMoved p s t) : Still s t := by
  rw [h.eq]
  exact .of_eq rfl rfl rfl rfl

/-! ### Events of the trunk and the timers -/

theorem State.leaseTimerExpiry_still (s : State) : Still s s.leaseTimerExpiry := by
  unfold State.leaseTimerExpiry
  split
  · exact s.endHolding_still true
  · exact .refl s

theorem TrunkOp.passing {op : State → State} (h : TrunkOp op) (hlaw : s.ReceptionLaw) : Passing s (op s) := by
  cases h
  case lineOctet o => exact State.lineOctet_passing o hlaw
  case markerFound => exact s.markerFound_passing
  case closeOf k => exact State.closeOf_passing k hlaw
  case arbitrate => exact s.arbitrate_passing
  case roundSend => exact s.roundSend_passing
  case rejectSend => exact s.rejectSend_passing
  case haltSend => exact s.flowSend_passing _ _ _
  case goSend => exact s.flowSend_passing _ _ _
  case ackSend => exact s.ackSend_passing
  case helloSend => exact s.helloSend_passing
  case transmissionEnd => exact s.transmissionEnd_passing
  case helloExpiry => exact s.helloExpiry_passing
  case intervalExpiry => exact s.intervalExpiry_passing
  case holdOffExpiry => exact s.holdOffExpiry_passing
  case flushTimerExpiry => exact s.flushTimerExpiry_passing
  case ackTimerExpiry => exact s.ackTimerExpiry_passing
  case ackDelayExpiry => exact s.ackDelayExpiry_passing
  case haltTimerExpiry => exact s.haltTimerExpiry_passing
  case leaseTimerExpiry => exact s.leaseTimerExpiry_still.passing
  case silence => exact s.silence_passing
  case clockReturn => exact s.clockSeen_passing

/-! ### Every step -/

theorem withPending_still (s : State) (l : List Instr) : Still s { s with pending := l } := .of_eq rfl rfl rfl rfl

theorem withReset_still (s : State) (b : Bool) : Still s { s with resetAsserted := b } := .of_eq rfl rfl rfl rfl

/-- A law that passes on with those of window, reception and line is kept by every step. -/
theorem keptByMoves_of_passing {P : State → Prop} (reception : ∀ s, P s → s.ReceptionLaw)
    (passing : ∀ s t, Passing s t → P s → P t)
    (parameter : ∀ s n lo hi v, paramRange n = some (lo, hi) → (lo ≤ v ∧ v ≤ hi) → P s →
      P { s with params := s.params.write n v })
    (reset : ∀ s : State, P s.deviceReset) : KeptByMoves P where
  queue s l := passing s _ (withPending_still s l).passing
  transaction p s t h := passing _ _ (TxnMoved.still h).passing
  command p s managed t h hs := by
    obtain h | ⟨n, lo, hi, v, hrange, hvalue, rfl⟩ := h.passing
    · exact passing _ _ h hs
    · exact passing _ _ (State.afterParameter_still _ n).passing (parameter s n lo hi v hrange hvalue hs)
  appendByte p s r b := passing _ _ (s.modPort_still p _).passing
  trunk op s h hs := passing _ _ (h.passing (reception s hs)) hs
  deviceReset s _ := reset s
  resetRelease s := passing s _ (withReset_still s false).passing

theorem State.LinkLaws.keptByMoves : KeptByMoves State.LinkLaws := by
  refine keptByMoves_of_passing (fun s ⟨_, _, _, _, _, hreception⟩ => hreception) ?passing ?parameter
    fun s => State.linkLaws_reset
  case passing =>
    intro s t h ⟨hparams, htimers, hreceiver, hwindow, hquiet, hreception⟩
    obtain ⟨htimers', hreceiver', hquiet'⟩ := h.line ⟨htimers, hreceiver, hquiet⟩
    exact ⟨hparams.of_eq h.params, htimers', hreceiver', h.window hparams hwindow, hquiet', h.reception hreception⟩
  case parameter =>
    intro s n lo hi v hrange hvalue ⟨hparams, hrest⟩
    exact ⟨hparams.write hrange hvalue, hrest⟩

/-- Settles O56: each command and event passes the laws on, the closing marker by leaving nothing in reception. -/
theorem stepKeepsLinkLaws : Obligations.StepKeepsLinkLaws := fun _ _ hs h => State.LinkLaws.keptByMoves.of_step hs h

end

end Sys2Proof.Machine
end

section
/-! SUPPORT. The accounts of the part as multisets (R1 to R4): what the frames that each port pays for hold, and what keeps
cells and counts in step. -/

namespace Sys2Proof.Machine

/-! ### Lots -/

/-- What a frame holds: its cells and their number. -/
def Frame.lot (f : Frame) : List Nat × Nat := (f.cells, f.cellCount)

/-- What the frames of a list hold. -/
def lotsOf (l : List Frame) : Multiset (List Nat × Nat) := ↑(l.map Frame.lot)

/-- The number of cells of some lots. -/
def lotCount (m : Multiset (List Nat × Nat)) : Nat := (m.map Prod.snd).sum

/-- The cells of some lots. -/
def lotCells (m : Multiset (List Nat × Nat)) : Multiset Nat := (m.map fun x => (↑x.1 : Multiset Nat)).sum

@[simp] theorem lotsOf_nil : lotsOf [] = 0 := rfl

@[simp] theorem lotsOf_append (l l' : List Frame) : lotsOf (l ++ l') = lotsOf l + lotsOf l' := by
  simp [lotsOf]

theorem lotsOf_perm {l l' : List Frame} (h : l.Perm l') : lotsOf l = lotsOf l' := Multiset.coe_eq_coe.mpr (h.map _)

theorem lotsOf_congr {l l' : List Frame} (h : l.map Frame.lot = l'.map Frame.lot) : lotsOf l = lotsOf l' :=
  congrArg Multiset.ofList h

theorem mem_lotsOf {l : List Frame} {x : List Nat × Nat} : x ∈ lotsOf l ↔ ∃ f ∈ l, f.lot = x := by
  simp [lotsOf]

@[simp] theorem lotCount_zero : lotCount 0 = 0 := rfl

@[simp] theorem lotCount_add (m n : Multiset (List Nat × Nat)) : lotCount (m + n) = lotCount m + lotCount n := by
  simp [lotCount]

@[simp] theorem lotCount_lotsOf (l : List Frame) : lotCount (lotsOf l) = cellsOf l := by
  simp [lotCount, lotsOf, cellsOf, Function.comp_def, Frame.lot]

@[simp] theorem lotCells_zero : lotCells 0 = 0 := rfl

@[simp] theorem lotCells_add (m n : Multiset (List Nat × Nat)) : lotCells (m + n) = lotCells m + lotCells n := by
  simp [lotCells]

@[simp] theorem lotCells_lotsOf (l : List Frame) : lotCells (lotsOf l) = ↑(cellList l) := by
  induction l with
  | nil => rfl
  | cons f l ih =>
    have hsplit : lotsOf (f :: l) = lotsOf [f] + lotsOf l := lotsOf_append [f] l
    rw [hsplit, lotCells_add, ih]
    simp [lotCells, lotsOf, Frame.lot, cellList]

section
variable {s t u : State}

/-- The delivered frames that q pays for. -/
def State.storeFrames (s : State) (q : Port) : List Frame := (s.frames.filter (·.2.payer == some q)).map (·.2)

/-- What the frames that q pays for hold (R3). -/
def State.lots (s : State) (q : Port) : Multiset (List Nat × Nat) := lotsOf (s.paidFrames q)

theorem State.lots_eq (s : State) (q : Port) :
    s.lots q =
      lotsOf (s.port q).slot.toList + lotsOf (s.port q).queue + lotsOf (entryFrames s.engine.window q) +
        lotsOf (s.lineFrames q) + lotsOf (s.storeFrames q) := by
  simp [State.lots, State.paidFrames, PortState.unsentFrames, State.storeFrames, add_assoc]

/-- What the four ports have. -/
def overPorts (m : Port → Multiset (List Nat × Nat)) : Multiset (List Nat × Nat) := m .p0 + m .p1 + m .p2 + m .p3

theorem overPorts_add (m n : Port → Multiset (List Nat × Nat)) :
    overPorts (fun q => m q + n q) = overPorts m + overPorts n := by
  dsimp only [overPorts]
  ac_rfl

@[simp] theorem overPorts_zero : overPorts (fun _ => 0) = 0 := rfl

theorem exists_of_mem_overPorts {m : Port → Multiset (List Nat × Nat)} {x : List Nat × Nat} (h : x ∈ overPorts m) :
    ∃ q, x ∈ m q := by
  simp only [overPorts, Multiset.mem_add] at h
  obtain ((h | h) | h) | h := h
  all_goals exact ⟨_, h⟩

theorem overPorts_lotsOf (of : Port → List Frame) : overPorts (fun q => lotsOf (of q)) = lotsOf (Port.all.flatMap of) := by
  simp [overPorts, Port.all, add_assoc]

/-- The accounts (R1 to R3): holdings are the cells of the frames a port pays for, the inbound account those of the frame
in reception, and each cell is in one place. -/
structure State.Accounts (s : State) : Prop where
  held : ∀ q, lotCount (s.lots q) = (s.port q).holdings
  stored : s.pool.inbound = cellsFor s.framer.stored.length
  free : s.pool.freeCells.length = s.pool.free
  inbound : s.pool.inboundCells.length = s.pool.inbound
  sized : ∀ q, ∀ x ∈ s.lots q, x.1.length = x.2
  cells : (↑s.pool.freeCells + ↑s.pool.inboundCells + lotCells (overPorts s.lots) : Multiset Nat) = ↑(List.range 512)

theorem State.accounts_iff : s.Accounts ↔ s.AccountLaw ∧ s.CellLaw := by
  have hcells : lotCells (overPorts s.lots) = ↑((Port.all.flatMap s.paidFrames).flatMap Frame.cells) := by
    unfold State.lots
    rw [overPorts_lotsOf, lotCells_lotsOf]
    rfl
  constructor
  · rintro ⟨hheld, hstored, hfree, hinbound, hsized, hall⟩
    refine ⟨⟨fun q => ?_, hstored⟩, hfree, hinbound, fun q f hf => ?_, ?_⟩
    · rw [← hheld q, State.lots, lotCount_lotsOf]
    · exact hsized q f.lot (mem_lotsOf.mpr ⟨f, hf, rfl⟩)
    · rw [hcells] at hall
      exact Multiset.coe_eq_coe.mp hall
  · rintro ⟨⟨hheld, hstored⟩, hfree, hinbound, hsized, hall⟩
    refine ⟨fun q => ?_, hstored, hfree, hinbound, fun q x hx => ?_, ?_⟩
    · rw [← hheld q, State.lots, lotCount_lotsOf]
    · obtain ⟨f, hf, rfl⟩ := mem_lotsOf.mp hx
      exact hsized q f hf
    · rw [hcells]
      exact Multiset.coe_eq_coe.mpr hall

theorem card_lotCells {m : Multiset (List Nat × Nat)} (h : ∀ x ∈ m, x.1.length = x.2) : (lotCells m).card = lotCount m := by
  refine (Multiset.card_join _).trans ?_
  rw [Multiset.map_map]
  exact congrArg Multiset.sum (Multiset.map_congr rfl fun x hx => by simpa using h x hx)

/-- Free, inbound and the four holdings make 512 (R1). -/
theorem State.Accounts.poolLaw (h : s.Accounts) : s.PoolLaw := by
  have hsized : ∀ x ∈ overPorts s.lots, x.1.length = x.2 := fun x hx =>
    (exists_of_mem_overPorts hx).elim fun q hx => h.sized q x hx
  have hcard := congrArg Multiset.card h.cells
  rw [Multiset.card_add, Multiset.card_add, card_lotCells hsized, Multiset.coe_card, Multiset.coe_card, Multiset.coe_card,
    h.free, h.inbound, List.length_range] at hcard
  unfold overPorts at hcard
  simp only [lotCount_add, h.held] at hcard
  unfold State.PoolLaw
  simp only [Port.all, List.map_cons, List.map_nil, List.sum_cons, List.sum_nil]
  show _ = 512
  omega

/-- Lots that leave what the ports pay for, and lots that come. -/
theorem State.Accounts.transfer (h : s.Accounts) (gone new : Port → Multiset (List Nat × Nat))
    (hlots : ∀ q, t.lots q + gone q = s.lots q + new q)
    (hheld : ∀ q, (t.port q).holdings + lotCount (gone q) = (s.port q).holdings + lotCount (new q))
    (hstored : t.pool.inbound = cellsFor t.framer.stored.length) (hfree : t.pool.freeCells.length = t.pool.free)
    (hinbound : t.pool.inboundCells.length = t.pool.inbound) (hsized : ∀ q, ∀ x ∈ new q, x.1.length = x.2)
    (hcells : (↑t.pool.freeCells + ↑t.pool.inboundCells + lotCells (overPorts new) : Multiset Nat) =
      ↑s.pool.freeCells + ↑s.pool.inboundCells + lotCells (overPorts gone)) : t.Accounts := by
  refine ⟨fun q => ?_, hstored, hfree, hinbound, fun q x hx => ?_, ?_⟩
  · have hcount := congrArg lotCount (hlots q)
    rw [lotCount_add, lotCount_add, h.held q, ← hheld q] at hcount
    exact Nat.add_right_cancel hcount
  · have hmem : x ∈ s.lots q + new q := hlots q ▸ Multiset.mem_add.mpr (.inl hx)
    obtain hx | hx := Multiset.mem_add.mp hmem
    · exact h.sized q x hx
    · exact hsized q x hx
  · have hall : overPorts t.lots + overPorts gone = overPorts s.lots + overPorts new := by
      rw [← overPorts_add, ← overPorts_add]
      exact congrArg overPorts (funext hlots)
    have hlotCells := congrArg lotCells hall
    rw [lotCells_add, lotCells_add] at hlotCells
    rw [← h.cells]
    refine add_right_cancel (b := lotCells (overPorts gone) + lotCells (overPorts new)) ?_
    calc (↑t.pool.freeCells + ↑t.pool.inboundCells + lotCells (overPorts t.lots) +
          (lotCells (overPorts gone) + lotCells (overPorts new)) : Multiset Nat)
        = (↑t.pool.freeCells + ↑t.pool.inboundCells + lotCells (overPorts new)) +
            (lotCells (overPorts t.lots) + lotCells (overPorts gone)) := by ac_rfl
      _ = (↑s.pool.freeCells + ↑s.pool.inboundCells + lotCells (overPorts gone)) +
            (lotCells (overPorts s.lots) + lotCells (overPorts new)) := by rw [hcells, hlotCells]
      _ = _ := by ac_rfl

end

end Sys2Proof.Machine
end

section
/-! SUPPORT. The books of the part: accounts, references, completion slots and the frame on the line, and the changes that
keep them. -/

namespace Sys2Proof.Machine

/-- The laws on accounts, references, completion slots and the frame on the line. -/
structure State.Books (s : State) : Prop where
  accounts : s.Accounts
  references : s.ReferenceLaw
  completions : s.CompletionLaw
  onLine : s.OnLineLaw

section
variable {o : CplOutcome} {s t u : State}

theorem State.accountLaws_iff :
    s.AccountLaws ↔ s.Books ∧ s.ReceptionLaw ∧ s.WindowLaw ∧ s.ParameterLaw := by
  constructor
  · rintro ⟨-, haccount, hcell, hreference, hcompletion, honLine, hrest⟩
    exact ⟨⟨State.accounts_iff.mpr ⟨haccount, hcell⟩, hreference, hcompletion, honLine⟩, hrest⟩
  · rintro ⟨⟨haccounts, hreference, hcompletion, honLine⟩, hrest⟩
    obtain ⟨haccount, hcell⟩ := State.accounts_iff.mp haccounts
    exact ⟨haccounts.poolLaw, haccount, hcell, hreference, hcompletion, honLine, hrest⟩

/-! ### What the laws read -/

/-- The frames of p that hold a reserved completion slot are those of its queue and of its window entries (R29). -/
theorem State.slotsOwed_eq (s : State) (p : Port) :
    s.slotsOwed p = (((s.port p).queue ++ reportedFrames s.engine.window p).filter Frame.notifies).length := by
  simp [State.slotsOwed, reportedFrames, List.filter_map, List.filter_filter, Function.comp_def, Bool.and_comm]

theorem State.transmitCount_eq (s : State) (p : Port) :
    s.transmitCount p = (s.port p).queue.length + (entryFrames s.engine.window p).length := by
  simp [State.transmitCount, State.windowCount, entryFrames]

theorem State.ReferenceLaw.of_eq (h : s.ReferenceLaw) (hframes : t.frames = s.frames)
    (hrecords : ∀ q, (t.port q).rx.records = (s.port q).rx.records) : t.ReferenceLaw := by
  have hcount (q : Port) (n : Nat) : t.recordsOf q n = s.recordsOf q n := by
    unfold State.recordsOf
    rw [hrecords]
  have hfind (n : Nat) : t.frame? n = s.frame? n := by
    unfold State.frame?
    rw [hframes]
  unfold State.ReferenceLaw
  simp only [hframes, hrecords, hcount, hfind]
  exact h

theorem State.storeFrames_congr (h : t.frames = s.frames) (q : Port) : t.storeFrames q = s.storeFrames q := by
  unfold State.storeFrames
  rw [h]

theorem State.OnLineLaw.of_eq (h : s.OnLineLaw) (hw : t.engine.window = s.engine.window) (htx : t.framer.tx = s.framer.tx) :
    t.OnLineLaw := by
  unfold State.OnLineLaw
  rw [hw, htx]
  exact h

theorem onLineLaw_of_off (h : ∀ e ∈ t.engine.window, e.onLine = false) : t.OnLineLaw := by
  have hany : t.engine.window.any (·.onLine) = false := List.any_eq_false.mpr fun e he => by simp [h e he]
  have hnone : t.engine.window.filter (·.onLine) = [] := List.filter_eq_nil_iff.mpr fun e he => by simp [h e he]
  refine ⟨by rw [hnone]; exact Nat.zero_le _, fun hon => ?_⟩
  rw [hany] at hon
  cases hon

/-- With no transmission in progress no entry is on the line (R94). -/
theorem State.OnLineLaw.off (h : s.OnLineLaw) (hidle : s.framer.tx = .idle) : ∀ e ∈ s.engine.window, e.onLine = false := by
  intro e he
  by_contra hon
  have hany := h.2 (List.any_eq_true.mpr ⟨e, he, by simpa using hon⟩)
  rw [hidle] at hany
  exact hany

theorem State.lineFrames_congr (h : t.framer.tx = s.framer.tx) (q : Port) : t.lineFrames q = s.lineFrames q := by
  unfold State.lineFrames
  rw [h]

theorem State.lineFrames_idle (h : s.framer.tx = .idle) (q : Port) : s.lineFrames q = [] := by
  unfold State.lineFrames
  rw [h]

theorem State.lineFrames_unheld {x : Transmission} (h : s.framer.tx = .sending x) (hheld : x.held = none) (q : Port) :
    s.lineFrames q = [] := by
  unfold State.lineFrames
  rw [h]
  dsimp only
  rw [hheld]

/-! ### The same books -/

/-- What the laws read of a port. -/
structure PortState.SameBooks (a b : PortState) : Prop where
  slot : b.slot.toList.map Frame.lot = a.slot.toList.map Frame.lot
  queue : b.queue = a.queue
  holdings : b.holdings = a.holdings
  records : b.rx.records = a.rx.records
  cpl : b.cpl = a.cpl

theorem PortState.SameBooks.refl (a : PortState) : a.SameBooks a := ⟨rfl, rfl, rfl, rfl, rfl⟩

/-- From s to t nothing changes that the laws on accounts, references and completion slots read, and that on the line is
kept. -/
structure SameBooks (s t : State) : Prop where
  port : ∀ q, (s.port q).SameBooks (t.port q)
  free : t.pool.free = s.pool.free
  inbound : t.pool.inbound = s.pool.inbound
  freeCells : t.pool.freeCells = s.pool.freeCells
  inboundCells : t.pool.inboundCells = s.pool.inboundCells
  frames : t.frames = s.frames
  entries : ∀ q, entryFrames t.engine.window q = entryFrames s.engine.window q
  reported : ∀ q, reportedFrames t.engine.window q = reportedFrames s.engine.window q
  line : ∀ q, t.lineFrames q = s.lineFrames q
  stored : cellsFor t.framer.stored.length = cellsFor s.framer.stored.length
  onLine : s.OnLineLaw → t.OnLineLaw

/-- The pool but for the recorded level, the frame store, the window, the transmission and what is stored stay. -/
theorem SameBooks.of_eq (hport : ∀ q, (s.port q).SameBooks (t.port q))
    (hpool : t.pool = { s.pool with level := t.pool.level }) (hframes : t.frames = s.frames)
    (hwindow : t.engine.window = s.engine.window) (htx : t.framer.tx = s.framer.tx)
    (hstored : t.framer.stored = s.framer.stored) : SameBooks s t where
  port := hport
  free := by rw [hpool]
  inbound := by rw [hpool]
  freeCells := by rw [hpool]
  inboundCells := by rw [hpool]
  frames := hframes
  entries q := by rw [hwindow]
  reported q := by rw [hwindow]
  line := State.lineFrames_congr htx
  stored := by rw [hstored]
  onLine h := h.of_eq hwindow htx

theorem SameBooks.refl (s : State) : SameBooks s s := .of_eq (fun _ => .refl _) rfl rfl rfl rfl rfl

theorem State.slotsOwed_congr {p : Port} (hqueue : (t.port p).queue = (s.port p).queue)
    (hreported : reportedFrames t.engine.window p = reportedFrames s.engine.window p) : t.slotsOwed p = s.slotsOwed p := by
  rw [State.slotsOwed_eq, State.slotsOwed_eq, hqueue, hreported]

theorem SameBooks.lots (h : SameBooks s t) (q : Port) : t.lots q = s.lots q := by
  rw [State.lots_eq, State.lots_eq, lotsOf_congr (h.port q).slot, (h.port q).queue, h.entries, h.line,
    State.storeFrames_congr h.frames]

theorem State.Books.same (hs : s.Books) (h : SameBooks s t) : t.Books where
  accounts := by
    obtain ⟨hheld, hstored, hfree, hinbound, hsized, hcells⟩ := hs.accounts
    have hlots : t.lots = s.lots := funext h.lots
    refine ⟨fun q => ?_, ?_, ?_, ?_, ?_, ?_⟩
    · rw [hlots, (h.port q).holdings, hheld]
    · rw [h.inbound, h.stored, hstored]
    · rw [h.freeCells, h.free, hfree]
    · rw [h.inboundCells, h.inbound, hinbound]
    · rw [hlots]
      exact hsized
    · rw [h.freeCells, h.inboundCells, hlots, hcells]
  references := hs.references.of_eq h.frames fun q => (h.port q).records
  completions p := by
    obtain ⟨hplaces, hreserved, hcount⟩ := hs.completions p
    refine ⟨?_, ?_, ?_⟩
    · unfold PortState.completions
      rw [(h.port p).cpl]
      exact hplaces
    · rw [(h.port p).cpl, State.slotsOwed_congr (h.port p).queue (h.reported p), hreserved]
    · rw [State.transmitCount_eq, (h.port p).queue, h.entries, ← State.transmitCount_eq]
      exact hcount
  onLine := h.onLine hs.onLine

/-! ### Frames that end -/

theorem cellsFor_zero : cellsFor 0 = 0 := rfl

/-- The end of frames, of a transmission or of a reception keeps the books where the frames that a port pays for are those
it paid for without the ones that have ended, and the slots reserved are those of its frames that are not reported. -/
theorem State.Books.ended {gone told : Owned} {cut : Bool} {edit : Port → List Frame → List Frame} (hs : s.Books)
    (h : Ended o gone told cut edit s t)
    (hlots : ∀ q,
      lotsOf (s.port q).queue + lotsOf (entryFrames s.engine.window q) + lotsOf (s.lineFrames q) =
        lotsOf (edit q (s.port q).queue) + lotsOf (entryFrames t.engine.window q) + lotsOf (t.lineFrames q) +
          lotsOf (gone.of q))
    (hslots : ∀ q,
      (((s.port q).queue ++ reportedFrames s.engine.window q).filter Frame.notifies).length =
        ((edit q (s.port q).queue ++ reportedFrames t.engine.window q).filter Frame.notifies).length +
          ((told.of q).filter Frame.notifies).length)
    (hcount : ∀ q,
      (edit q (s.port q).queue).length + (entryFrames t.engine.window q).length ≤
        (s.port q).queue.length + (entryFrames s.engine.window q).length)
    (hstored : t.framer.stored = if cut then [] else s.framer.stored) (honLine : t.OnLineLaw) : t.Books := by
  have hframes : t.frames = s.frames := by rw [h.rest]
  have hall (q : Port) : t.lots q + lotsOf (gone.of q) = s.lots q + 0 := by
    have hq := hlots q
    rw [State.lots_eq, State.lots_eq, h.port q, State.storeFrames_congr hframes]
    calc _ = lotsOf (s.port q).slot.toList + (lotsOf (edit q (s.port q).queue) + lotsOf (entryFrames t.engine.window q) +
          lotsOf (t.lineFrames q) + lotsOf (gone.of q)) + lotsOf (s.storeFrames q) := by ac_rfl
      _ = _ := by
        rw [← hq, add_zero]
        ac_rfl
  have hgone (q : Port) : cellsOf (gone.of q) ≤ (s.port q).holdings := by
    have hcount := congrArg lotCount (hall q)
    rw [lotCount_add, lotCount_add, hs.accounts.held q, lotCount_lotsOf, lotCount_zero] at hcount
    omega
  have hgoneCells : lotCells (overPorts fun q => lotsOf (gone.of q)) = ↑(cellList gone.frames) := by
    rw [overPorts_lotsOf, lotCells_lotsOf]
    exact Multiset.coe_eq_coe.mpr (cellList_perm gone.perm_frames)
  have hgoneLength : (cellList gone.frames).length = cellsOf gone.frames := by
    have hsized : ∀ x ∈ overPorts fun q => lotsOf (gone.of q), x.1.length = x.2 := by
      intro x hx
      obtain ⟨q, hx⟩ := exists_of_mem_overPorts hx
      refine hs.accounts.sized q x ?_
      rw [← add_zero (s.lots q), ← hall q]
      exact Multiset.mem_add.mpr (.inr hx)
    have hcard := card_lotCells hsized
    rwa [hgoneCells, overPorts_lotsOf, lotCount_lotsOf, Multiset.coe_card, cellsOf_perm gone.perm_frames] at hcard
  refine ⟨?_, ?_, fun p => ?_, honLine⟩
  · refine hs.accounts.transfer (fun q => lotsOf (gone.of q)) (fun _ => 0) hall (fun q => ?_) ?_ ?_ ?_ (fun _ _ hx => ?_) ?_
    · have hle := hgone q
      rw [h.port q, lotCount_lotsOf, lotCount_zero]
      dsimp only
      omega
    · rw [h.inbound, hstored]
      cases cut with
      | true => simp [cellsFor_zero]
      | false => exact hs.accounts.stored
    · have hlength := h.cells.length_eq
      rw [List.length_append, List.length_append, hs.accounts.free] at hlength
      rw [hlength, h.free, hgoneLength]
      cases cut with
      | true => simp [hs.accounts.inbound]
      | false => simp
    · rw [h.inbound, h.inboundCells]
      cases cut with
      | true => rfl
      | false => exact hs.accounts.inbound
    · exact absurd hx (Multiset.notMem_zero _)
    · rw [hgoneCells, overPorts_zero, lotCells_zero, add_zero, Multiset.coe_eq_coe.mpr h.cells, h.inboundCells]
      cases cut with
      | true => simp [← Multiset.coe_add, add_assoc, add_comm]
      | false => simp [← Multiset.coe_add, add_assoc, add_comm, add_left_comm]
  · refine hs.references.of_eq hframes fun q => ?_
    rw [h.port q]
  · obtain ⟨hplaces, hreserved, htransmit⟩ := hs.completions p
    have hslots := hslots p
    have hcount := hcount p
    rw [State.slotsOwed_eq] at hreserved
    rw [State.transmitCount_eq] at htransmit
    unfold PortState.completions at hplaces ⊢
    rw [State.slotsOwed_eq, State.transmitCount_eq, h.port p]
    dsimp only [CplList.convert, recordsFor]
    rw [List.length_append, List.length_map]
    refine ⟨?_, ?_, ?_⟩
    all_goals omega

end

end Sys2Proof.Machine
end

section
/-! SUPPORT. The operations that the trunk, the timers and the commands share keep the books. -/

namespace Sys2Proof.Machine

section
variable {o : CplOutcome} {s t u : State}

/-! ### Changes of the same books -/

theorem PortState.SameBooks.trans {a b c : PortState} (h : a.SameBooks b) (h' : b.SameBooks c) : a.SameBooks c :=
  ⟨h'.slot.trans h.slot, h'.queue.trans h.queue, h'.holdings.trans h.holdings, h'.records.trans h.records,
    h'.cpl.trans h.cpl⟩

theorem SameBooks.trans (h : SameBooks s t) (h' : SameBooks t u) : SameBooks s u where
  port q := (h.port q).trans (h'.port q)
  free := h'.free.trans h.free
  inbound := h'.inbound.trans h.inbound
  freeCells := h'.freeCells.trans h.freeCells
  inboundCells := h'.inboundCells.trans h.inboundCells
  frames := h'.frames.trans h.frames
  entries q := (h'.entries q).trans (h.entries q)
  reported q := (h'.reported q).trans (h.reported q)
  line q := (h'.line q).trans (h.line q)
  stored := h'.stored.trans h.stored
  onLine := h'.onLine ∘ h.onLine

theorem SameBooks.of_ports (hports : t.ports = s.ports) (hpool : t.pool = s.pool) (hframes : t.frames = s.frames)
    (hwindow : t.engine.window = s.engine.window) (htx : t.framer.tx = s.framer.tx)
    (hstored : t.framer.stored = s.framer.stored) : SameBooks s t :=
  .of_eq (fun q => by unfold State.port; rw [hports]; exact .refl _) (by rw [hpool]) hframes hwindow htx hstored

theorem SameBooks.ite {c : Prop} [Decidable c] (ht : SameBooks s t) (hu : SameBooks s u) :
    SameBooks s (if c then t else u) := by
  split
  · exact ht
  · exact hu

theorem State.settlePool_same (s : State) : SameBooks s s.settlePool := by
  refine .of_eq (fun q => ?_) ?_ (by simp) ?_ (by simp) (by simp)
  · rw [State.port_settlePool_eq]
    exact ⟨rfl, rfl, rfl, rfl, rfl⟩
  · rw [State.settlePool_pool]
  · rw [(State.settlePool_lineKept s).window]

theorem sameBooks_modPort {p : Port} {f : PortState → PortState} (h : (s.port p).SameBooks (f (s.port p))) :
    SameBooks s (s.modPort p f) := by
  refine .of_eq (fun q => ?_) rfl rfl rfl rfl rfl
  rw [State.port_modPort]
  split
  · next hq =>
    subst hq
    exact h
  · exact .refl _

theorem State.raise_same (s : State) (p : Port) (e : Event) : SameBooks s (s.raise p e) :=
  sameBooks_modPort ⟨rfl, rfl, rfl, rfl, rfl⟩

theorem State.raiseAll_same (s : State) (e : Event) : SameBooks s (s.raiseAll e) := by
  refine .of_eq (fun q => ?_) rfl rfl rfl rfl rfl
  rw [State.port_raiseAll]
  exact ⟨rfl, rfl, rfl, rfl, rfl⟩

/-- A transmission starts on an idle line (R65, R94). -/
theorem State.startFrame_same (hidle : s.framer.tx = .idle) (k : FrameType) (l : List Byte) :
    SameBooks s (s.startFrame k l) := by
  have hwindow : (s.startFrame k l).engine.window = s.engine.window := by
    unfold State.startFrame
    dsimp only
    split <;> rfl
  refine ⟨fun _ => .refl _, rfl, rfl, rfl, rfl, rfl, fun q => by rw [hwindow], fun q => by rw [hwindow], fun q => ?_, rfl,
    fun h => onLineLaw_of_off ?_⟩
  · rw [State.lineFrames_idle hidle]
    exact State.lineFrames_unheld rfl rfl q
  · rw [hwindow]
    exact h.off hidle

/-! ### Frames of window entries -/

theorem entryFrames_map {f : WindowEntry → WindowEntry} (howner : ∀ e, (f e).owner = e.owner)
    (hframe : ∀ e, (f e).frame = e.frame) (w : List WindowEntry) (q : Port) :
    entryFrames (w.map f) q = entryFrames w q := by
  simp [entryFrames, List.filter_map, Function.comp_def, howner, hframe]

theorem reportedFrames_map {f : WindowEntry → WindowEntry} (howner : ∀ e, (f e).owner = e.owner)
    (hframe : ∀ e, (f e).frame = e.frame) (horphan : ∀ e, (f e).orphan = e.orphan) (w : List WindowEntry) (q : Port) :
    reportedFrames (w.map f) q = reportedFrames w q := by
  simp [reportedFrames, List.filter_map, Function.comp_def, howner, hframe, horphan]

theorem entryFrames_offLine (w : List WindowEntry) (q : Port) : entryFrames (offLine w) q = entryFrames w q :=
  entryFrames_map (f := fun e => { e with onLine := false }) (fun _ => rfl) (fun _ => rfl) w q

theorem reportedFrames_offLine (w : List WindowEntry) (q : Port) : reportedFrames (offLine w) q = reportedFrames w q :=
  reportedFrames_map (f := fun e => { e with onLine := false }) (fun _ => rfl) (fun _ => rfl) (fun _ => rfl) w q

@[simp] theorem entryFrames_nil (q : Port) : entryFrames [] q = [] := rfl

@[simp] theorem reportedFrames_nil (q : Port) : reportedFrames [] q = [] := rfl

/-! ### The end of a transmission and of a reception -/

theorem State.Books.endTransmission (h : s.Books) (c : List Byte) : (s.endTransmission c).Books := by
  obtain ⟨-, e⟩ | ⟨-, hframer, hwindow, -⟩ := s.endTransmission_line c
  · rw [e]
    exact h
  · have hended := s.endTransmission_ended (o := .acked) c
    generalize s.endTransmission c = t at *
    have hline : ∀ q, t.lineFrames q = [] := t.lineFrames_idle (by rw [hframer])
    refine h.ended hended (fun q => ?_) (fun q => ?_) (fun q => ?_) (by rw [hframer]; rfl) (onLineLaw_of_off fun e he => ?_)
    · rw [hwindow, entryFrames_offLine, hline, State.lineHeld_of, lotsOf_nil, add_zero]
      rfl
    · rw [hwindow, reportedFrames_offLine]
      rfl
    · rw [hwindow, entryFrames_offLine]
      exact le_rfl
    · rw [hwindow] at he
      obtain ⟨x, -, rfl⟩ := List.mem_map.mp he
      rfl

theorem State.Books.abortTransmission (h : s.Books) : s.abortTransmission.Books := by
  obtain ⟨-, e⟩ | ⟨x, c, -, -, e⟩ := s.abortTransmission_cases
  · rw [e]
    exact h
  · have ticked : SameBooks s { s with freeTick := s.freeTick + 1 } := .of_ports rfl rfl rfl rfl rfl rfl
    rw [e]
    exact (h.same ticked).endTransmission c

theorem State.Books.releaseInbound (h : s.Books) : s.releaseInbound.Books := by
  have hended := s.releaseInbound_ended (o := .acked)
  obtain ⟨hframer, hwindow⟩ := s.releaseInbound_line
  generalize s.releaseInbound = t at *
  have htx : t.framer.tx = s.framer.tx := by rw [hframer]
  refine h.ended hended (fun q => ?_) (fun q => ?_) (fun q => ?_) (by rw [hframer]; rfl) (h.onLine.of_eq hwindow htx)
  · rw [hwindow, State.lineFrames_congr htx, Owned.of_nil, lotsOf_nil, add_zero]
    rfl
  · rw [hwindow]
    rfl
  · rw [hwindow]
    exact le_rfl

theorem State.Books.cutOff (h : s.Books) (after : RxState) : (s.cutOff after).Books := by
  obtain ⟨-, e⟩ | ⟨-, e⟩ := s.cutOff_cases after
  · rw [e]
    exact h
  · rw [e]
    exact h.releaseInbound.same (.of_ports rfl rfl rfl rfl rfl rfl)

theorem State.Books.failWaiting (h : s.Books) : (s.failWaiting o).Books := by
  have hended := s.failWaiting_ended (o := o)
  obtain ⟨hframer, -, hwindow⟩ := s.failWaiting_lineKept o
  generalize s.failWaiting o = t at *
  have htx : t.framer.tx = s.framer.tx := by rw [hframer]
  refine h.ended hended (fun q => ?_) (fun q => ?_) (fun q => ?_) (by rw [hframer]; rfl) (h.onLine.of_eq hwindow htx)
  · rw [hwindow, State.lineFrames_congr htx, State.waiting_of, lotsOf_nil, zero_add]
    ac_rfl
  · rw [hwindow, State.waiting_of, List.filter_append, List.length_append, List.nil_append, Nat.add_comm]
  · rw [hwindow]
    exact Nat.add_le_add_right (Nat.zero_le _) _

end

end Sys2Proof.Machine
end

section
/-! SUPPORT. The moves of the link, the window and the transmit line keep the books. -/

namespace Sys2Proof.Machine

section
variable {o : CplOutcome} {s t u : State}

/-! ### The link alone -/

theorem withLink_same (s : State) (l : Link) : SameBooks s { s with link := l } := .of_ports rfl rfl rfl rfl rfl rfl

theorem withEngine_same (s : State) {e : Engine} (h : e.window = s.engine.window) : SameBooks s { s with engine := e } :=
  .of_ports rfl rfl rfl h rfl rfl

theorem State.setLinkState_same (s : State) (l : LinkState) : SameBooks s (s.setLinkState l) :=
  (withLink_same s _).trans (State.raiseAll_same _ _)

theorem State.enterSeeking_same (s : State) : SameBooks s s.enterSeeking :=
  (withLink_same s _).trans (State.setLinkState_same _ _)

theorem State.enterConfirming_same (s : State) (b : Byte) : SameBooks s (s.enterConfirming b) :=
  (withLink_same s _).trans (State.setLinkState_same _ _)

theorem State.enterLost_same (s : State) (cause : LossCause) : SameBooks s (s.enterLost cause) :=
  (withLink_same s _).trans (State.setLinkState_same _ _)

theorem State.enterUp_same (s : State) : SameBooks s s.enterUp := by
  have quiet : SameBooks s
      { s with
        engine := { s.engine.quiet with vs := 0, vr := 0 }
        link :=
          { s.link with
            confCount := s.params.nUp, lossCount := 0, heard := false, helloDue := false
            helloTimer := .running s.params.tHello, intervalTimer := .running s.params.tHello
            flushTimer := .stopped, flushed := false } } := .of_ports rfl rfl rfl rfl rfl rfl
  exact quiet.trans (State.setLinkState_same _ _)

theorem State.Books.loopedBack (h : s.Books) : s.loopedBack.Books :=
  h.abortTransmission.same (State.enterLost_same _ _)

theorem State.Books.flushExpiry (h : s.Books) : s.flushExpiry.Books := h.failWaiting.same (withLink_same _ _)

theorem State.Books.startFlushTimer (h : s.Books) : s.startFlushTimer.Books := by
  obtain ⟨-, e⟩ | ⟨-, -, e⟩ | ⟨-, -, e⟩ := s.startFlushTimer_cases <;> rw [e]
  · exact h
  · exact h.flushExpiry
  · exact h.same (withLink_same s _)

theorem State.Books.trunkOn (h : s.Books) : s.trunkOn.Books := by
  have hunting : SameBooks s { s with framer := { s.framer with rxState := .hunting, watch := .running } } :=
    .of_ports rfl rfl rfl rfl rfl rfl
  unfold State.trunkOn
  split
  · exact (h.same (hunting.trans (State.enterSeeking_same _))).startFlushTimer
  · exact h

/-! ### TRUNK OFF and leaving UP -/

theorem onLineLaw_of_empty (h : t.engine.window = []) : t.OnLineLaw := onLineLaw_of_off (by rw [h]; simp)

theorem State.Books.trunkOff (h : s.Books) : s.trunkOff.Books := by
  by_cases hoff : s.link.state = .off
  · rw [State.trunkOff, if_pos hoff]
    exact h
  · have hended := s.switchedOff_ended
    obtain ⟨hframer, hwindow⟩ := s.switchedOff_line
    rw [State.trunkOff_of_not_off hoff]
    generalize s.switchedOff = v at *
    have hline : ∀ q, v.lineFrames q = [] := v.lineFrames_idle (by rw [hframer])
    have hbooks : v.Books := by
      refine h.ended hended (fun q => ?_) (fun q => ?_) (fun q => ?_) ?_ (onLineLaw_of_empty hwindow)
      · rw [hwindow, hline, Owned.of_append, Owned.of_append, State.lineHeld_of, ownedOf_of, State.waiting_of]
        simp only [lotsOf_append, lotsOf_nil, entryFrames_nil, zero_add]
        ac_rfl
      · rw [hwindow, Owned.of_append, reported_of, State.waiting_of]
        simp [Nat.add_comm]
      · rw [hwindow]
        exact Nat.zero_le _
      · rw [hframer]
    unfold State.silenced
    refine hbooks.same (.trans ?_ (State.raiseAll_same _ _))
    exact .of_ports rfl rfl rfl rfl rfl rfl

/-- The frames of a port's window entries are those of orphans and those that go back to its queue (R50, R51). -/
theorem lotsOf_entryFrames (w : List WindowEntry) (q : Port) :
    lotsOf (entryFrames w q) = lotsOf (entryFrames (w.filter (·.orphan)) q) + lotsOf (returnedFrames w q) := by
  induction w with
  | nil => rfl
  | cons e w ih =>
    have hsplit (x : WindowEntry) (l : List WindowEntry) : entryFrames (x :: l) q = entryFrames [x] q ++ entryFrames l q := by
      unfold entryFrames
      rw [← List.singleton_append, List.filter_append, List.map_append]
    have hreturned : returnedFrames (e :: w) q = returnedFrames [e] q ++ returnedFrames w q := by
      unfold returnedFrames
      rw [← List.singleton_append, List.filter_append, List.map_append]
    rw [hsplit, hreturned, lotsOf_append, lotsOf_append, ih]
    cases horphan : e.orphan with
    | true =>
      have hnone : returnedFrames [e] q = [] := by simp [returnedFrames, horphan]
      have hfilter : (e :: w).filter (·.orphan) = e :: w.filter (·.orphan) := List.filter_cons_of_pos horphan
      rw [hfilter, hsplit e (w.filter (·.orphan)), hnone, lotsOf_append, lotsOf_nil]
      ac_rfl
    | false =>
      have hback : lotsOf (returnedFrames [e] q) = lotsOf (entryFrames [e] q) := by
        by_cases howner : e.owner = q <;>
          simp [returnedFrames, entryFrames, horphan, howner, lotsOf, Frame.lot, Frame.cellCount]
      have hfilter : (e :: w).filter (·.orphan) = w.filter (·.orphan) := List.filter_cons_of_neg (by simp [horphan])
      rw [hfilter, hback]
      ac_rfl

theorem returnedFrames_eq (w : List WindowEntry) (q : Port) :
    returnedFrames w q = (reportedFrames w q).map fun f => { f with state := .waiting } := by
  simp [returnedFrames, reportedFrames]

theorem notifies_returnedFrames (w : List WindowEntry) (q : Port) :
    ((returnedFrames w q).filter Frame.notifies).length = ((reportedFrames w q).filter Frame.notifies).length := by
  rw [returnedFrames_eq, List.filter_map, List.length_map]
  rfl

theorem length_reportedFrames_le (w : List WindowEntry) (q : Port) :
    (reportedFrames w q).length ≤ (entryFrames w q).length := by
  simp only [reportedFrames, entryFrames, List.length_map]
  exact (List.monotone_filter_right w fun e => by simp +contextual).length_le

theorem State.Books.returnWindow (h : s.Books) : s.returnWindow.Books := by
  have hended := s.returnWindow_ended (o := .linkDown)
  obtain ⟨hframer, hwindow⟩ := s.returnWindow_line
  generalize s.returnWindow = t at *
  have htx : t.framer.tx = s.framer.tx := by rw [hframer]
  refine h.ended hended (fun q => ?_) (fun q => ?_) (fun q => ?_) (by rw [hframer]; rfl) (onLineLaw_of_empty hwindow)
  · rw [hwindow, State.lineFrames_congr htx, ownedOf_of, lotsOf_append, lotsOf_entryFrames]
    simp only [entryFrames_nil, lotsOf_nil]
    ac_rfl
  · rw [hwindow, List.filter_append, List.filter_append, List.filter_append, List.length_append, List.length_append,
      List.length_append, notifies_returnedFrames]
    exact Nat.add_comm ..
  · have hle := length_reportedFrames_le s.engine.window q
    rw [hwindow, returnedFrames_eq, List.length_append, List.length_map]
    simp only [entryFrames_nil, List.length_nil]
    omega

theorem State.Books.leaveUp (h : s.Books) (cause : LossCause) : (s.leaveUp cause).Books := by
  have back := (h.abortTransmission.returnWindow).cutOff .discarding
  unfold State.leaveUp
  dsimp only
  generalize (s.abortTransmission.returnWindow).cutOff .discarding = t at back ⊢
  exact ((back.same (withEngine_same t (e := t.engine.quiet) rfl)).startFlushTimer).same (State.enterLost_same _ _)

end

end Sys2Proof.Machine
end

section
/-! SUPPORT. Acknowledgement, retransmission, the transmit line and the timers keep the books. -/

namespace Sys2Proof.Machine

section
variable {o : CplOutcome} {s t u : State}

/-! ### Acknowledgement -/

theorem entryFrames_append (v w : List WindowEntry) (q : Port) :
    entryFrames (v ++ w) q = entryFrames v q ++ entryFrames w q := by
  simp [entryFrames]

theorem reportedFrames_append (v w : List WindowEntry) (q : Port) :
    reportedFrames (v ++ w) q = reportedFrames v q ++ reportedFrames w q := by
  simp [reportedFrames]

theorem lotsOf_entryFrames_filter (f : WindowEntry → Bool) (w : List WindowEntry) (q : Port) :
    lotsOf (entryFrames w q) = lotsOf (entryFrames (w.filter f) q) + lotsOf (entryFrames (w.filter (!f ·)) q) := by
  rw [← lotsOf_append, ← entryFrames_append]
  exact lotsOf_perm (((List.filter_append_perm f w).symm.filter _).map _)

/-- The entry on the line, found among entries of which at most one is on the line. -/
theorem filter_onLine_of_find? {w : List WindowEntry} {e : WindowEntry} (hone : (w.filter (·.onLine)).length ≤ 1)
    (hfind : w.find? (·.onLine) = some e) : w.filter (·.onLine) = [e] := by
  have hhead : (w.filter (·.onLine)).head? = some e := by rw [List.head?_filter, hfind]
  cases hw : w.filter (·.onLine) with
  | nil => simp [hw] at hhead
  | cons x l =>
    rw [hw] at hhead hone
    obtain rfl : x = e := Option.some.inj hhead
    rw [List.length_cons] at hone
    rw [List.length_eq_zero_iff.mp (Nat.le_zero.mp (Nat.le_of_succ_le_succ hone))]

/-- The frame on the line is held when its entry is acknowledged (R4, R94). -/
theorem lotsOf_lineFrames_holding (hlaw : s.OnLineLaw) (k : Nat)
    (htx : t.framer.tx = s.framer.tx.holding ((s.engine.window.take k).find? (·.onLine))) (q : Port) :
    lotsOf (t.lineFrames q) =
      lotsOf (s.lineFrames q) + lotsOf (entryFrames ((s.engine.window.take k).filter (·.onLine)) q) := by
  obtain ⟨hone, hany⟩ := hlaw
  have hone : ((s.engine.window.take k).filter (·.onLine)).length ≤ 1 :=
    (((List.take_sublist k _).filter _).length_le).trans hone
  cases hfind : (s.engine.window.take k).find? (·.onLine) with
  | none =>
    rw [hfind, TxState.holding_none] at htx
    have hnone : (s.engine.window.take k).filter (·.onLine) = [] :=
      List.filter_eq_nil_iff.mpr fun e he => by simpa using List.find?_eq_none.mp hfind e he
    rw [hnone, State.lineFrames_congr htx]
    exact (add_zero _).symm
  | some e =>
    have hmem := List.mem_of_mem_take (List.mem_of_find?_eq_some hfind)
    have hon : e.onLine = true := by simpa using List.find?_some hfind
    have hany := hany (List.any_eq_true.mpr ⟨e, hmem, hon⟩)
    rw [filter_onLine_of_find? hone hfind]
    rw [hfind] at htx
    cases hidle : s.framer.tx with
    | idle => rw [hidle] at hany; exact hany.elim
    | sending x =>
      rw [hidle] at hany htx
      have hheld : x.held = none := hany
      rw [State.lineFrames_unheld hidle hheld, lotsOf_nil, zero_add]
      refine congrArg lotsOf ?_
      unfold State.lineFrames
      rw [htx]
      by_cases howner : e.owner = q <;> simp [TxState.holding, entryFrames, howner]

theorem State.Books.ackEntries (h : s.Books) (k : Nat) : (s.ackEntries k).Books := by
  obtain ⟨hended, -, hframer, -⟩ := State.ackEntries_ended h.onLine.sound k
  have hwindow : (s.ackEntries k).engine.window = s.engine.window.drop k := (s.ackEntries_engine k).window_eq
  generalize s.ackEntries k = t at *
  have htx : t.framer.tx = s.framer.tx.holding ((s.engine.window.take k).find? (·.onLine)) := by rw [hframer]
  have hwhole (q : Port) : entryFrames s.engine.window q =
      entryFrames (s.engine.window.take k) q ++ entryFrames (s.engine.window.drop k) q := by
    rw [← entryFrames_append, List.take_append_drop]
  have hreported (q : Port) : reportedFrames s.engine.window q =
      reportedFrames (s.engine.window.take k) q ++ reportedFrames (s.engine.window.drop k) q := by
    rw [← reportedFrames_append, List.take_append_drop]
  refine h.ended hended (fun q => ?_) (fun q => ?_) (fun q => ?_) (by rw [hframer]; rfl) ?_
  · rw [hwindow, lotsOf_lineFrames_holding h.onLine k htx, ownedOf_of, hwhole, lotsOf_append,
      lotsOf_entryFrames_filter (·.onLine) (s.engine.window.take k)]
    dsimp only [id]
    ac_rfl
  · rw [hwindow, reported_of, hreported]
    simp only [id, List.filter_append, List.length_append]
    omega
  · rw [hwindow, hwhole, List.length_append]
    dsimp only [id]
    omega
  · obtain ⟨hone, hany⟩ := h.onLine
    have hsub := List.drop_sublist k s.engine.window
    cases hfind : (s.engine.window.take k).find? (·.onLine) with
    | none =>
      rw [hfind, TxState.holding_none] at htx
      refine ⟨?_, fun hon => ?_⟩
      · rw [hwindow]
        exact ((hsub.filter _).length_le).trans hone
      · rw [htx]
        refine hany ?_
        rw [hwindow] at hon
        obtain ⟨e, he, hon⟩ := List.any_eq_true.mp hon
        exact List.any_eq_true.mpr ⟨e, hsub.subset he, hon⟩
    | some e =>
      refine onLineLaw_of_off fun x hx => ?_
      rw [hwindow] at hx
      by_contra hon
      have hfirst : 0 < ((s.engine.window.take k).filter (·.onLine)).length :=
        List.length_pos_of_mem (List.mem_filter.mpr ⟨List.mem_of_find?_eq_some hfind, List.find?_some hfind⟩)
      have hsecond : 0 < ((s.engine.window.drop k).filter (·.onLine)).length :=
        List.length_pos_of_mem (List.mem_filter.mpr ⟨hx, by simpa using hon⟩)
      rw [← List.take_append_drop k s.engine.window, List.filter_append, List.length_append] at hone
      omega

theorem State.Books.acknowledge (h : s.Books) (n : Seq) : (s.acknowledge n).Books := by
  obtain ⟨timer, round, e⟩ := s.acknowledge_cases n
  rw [e]
  exact (h.ackEntries _).same (withEngine_same _ rfl)

/-! ### Changes within what a port holds -/

theorem State.Accounts.same_lots (h : s.Accounts) (hlots : ∀ q, t.lots q = s.lots q)
    (hholdings : ∀ q, (t.port q).holdings = (s.port q).holdings)
    (hpool : t.pool = { s.pool with level := t.pool.level })
    (hstored : t.framer.stored = s.framer.stored) : t.Accounts := by
  obtain ⟨hheld, hstore, hfree, hinbound, hsized, hcells⟩ := h
  have hall : t.lots = s.lots := funext hlots
  refine ⟨fun q => ?_, ?_, ?_, ?_, ?_, ?_⟩
  · rw [hall, hholdings, hheld]
  · rw [hpool, hstored, hstore]
  · rw [hpool, hfree]
  · rw [hpool, hinbound]
  · rw [hall]
    exact hsized
  · rw [hpool, hall, hcells]

/-- The retry counts of window entries change (R104). -/
theorem withRetries_same {f : WindowEntry → WindowEntry} (h : ∀ e, ∃ n, f e = { e with retry := n }) {e : Engine}
    (he : e.window = s.engine.window.map f) : SameBooks s { s with engine := e } := by
  have howner (x : WindowEntry) : (f x).owner = x.owner := by obtain ⟨n, hn⟩ := h x; rw [hn]
  have hframe (x : WindowEntry) : (f x).frame = x.frame := by obtain ⟨n, hn⟩ := h x; rw [hn]
  have horphan (x : WindowEntry) : (f x).orphan = x.orphan := by obtain ⟨n, hn⟩ := h x; rw [hn]
  have honLine (x : WindowEntry) : (f x).onLine = x.onLine := by obtain ⟨n, hn⟩ := h x; rw [hn]
  refine ⟨fun _ => .refl _, rfl, rfl, rfl, rfl, rfl, fun q => ?_, fun q => ?_, fun _ => rfl, rfl,
    fun ⟨hone, hany⟩ => ⟨?_, fun hon => hany ?_⟩⟩
  · show entryFrames e.window q = _
    rw [he, entryFrames_map howner hframe]
  · show reportedFrames e.window q = _
    rw [he, reportedFrames_map howner hframe horphan]
  · show (e.window.filter (·.onLine)).length ≤ 1
    rw [he, List.filter_map, List.length_map]
    simpa [Function.comp_def, honLine] using hone
  · have hon : e.window.any (·.onLine) = true := hon
    rw [he, List.any_map] at hon
    simpa [Function.comp_def, honLine] using hon

theorem State.Books.retryFrom (h : s.Books) (n : Seq) : (s.retryFrom n).Books := by
  unfold State.retryFrom
  split
  · exact h.leaveUp _
  · have bumped : SameBooks s { s with engine := s.engine.bumpRetry n } := by
      refine withRetries_same (f := fun x => if x.seq = n then { x with retry := x.retry + 1 } else x) (fun e => ?_) rfl
      split
      · exact ⟨_, rfl⟩
      · exact ⟨e.retry, rfl⟩
    exact h.same (bumped.trans (withEngine_same _ rfl))

/-! ### The transmit line -/

/-- The numbers of a window are distinct (R93). -/
theorem consecutiveFrom.nodup {w : List WindowEntry} {n last : Seq} (h : consecutiveFrom n w last) (hlength : w.length ≤ 7) :
    (w.map (·.seq)).Nodup := by
  induction w generalizing n with
  | nil => exact List.nodup_nil
  | cons x w ih =>
    obtain ⟨hx, hrest⟩ := h
    rw [List.length_cons] at hlength
    rw [List.map_cons, List.nodup_cons]
    refine ⟨fun hmem => ?_, ih hrest (by omega)⟩
    obtain ⟨y, hy, hseq⟩ := List.mem_map.mp hmem
    obtain ⟨i, hi, hi'⟩ := hrest.seq_eq hy
    have hlow : i < 6 := by omega
    rw [hi', hx] at hseq
    bv_omega

/-- One entry at most has a given number (R93). -/
theorem State.WindowLaw.filter_seq (h : s.WindowLaw) (n : Seq) :
    (s.engine.window.filter (·.seq == n)).length ≤ 1 := by
  obtain ⟨hlength, hnumbers, -⟩ := h
  have hone := List.nodup_iff_count_le_one.mp (hnumbers.nodup hlength) n
  rwa [List.count, List.countP_map, List.countP_eq_length_filter] at hone

theorem State.Books.resendEntry (h : s.Books) (hlaw : s.WindowLaw) (hidle : s.framer.tx = .idle) (hup : s.link.state = .up)
    (r : Round) (x : WindowEntry) : (s.resendEntry r x).Books := by
  have hoff := h.onLine.off hidle
  rw [State.resendEntry_eq hup]
  refine h.same ⟨fun _ => .refl _, rfl, rfl, rfl, rfl, rfl, fun q => ?_, fun q => ?_, fun q => ?_, rfl,
    fun _ => ⟨?_, fun _ => rfl⟩⟩
  · refine entryFrames_map (fun e => ?_) (fun e => ?_) _ q
    all_goals split <;> rfl
  · refine reportedFrames_map (fun e => ?_) (fun e => ?_) (fun e => ?_) _ q
    all_goals split <;> rfl
  · rw [State.lineFrames_idle hidle]
    exact State.lineFrames_unheld rfl rfl q
  · have hnumber := hlaw.filter_seq x.seq
    dsimp only
    rw [List.filter_map, List.length_map]
    refine le_of_eq_of_le (congrArg List.length (List.filter_congr fun e he => ?_)) hnumber
    by_cases hseq : e.seq = x.seq <;> simp [hseq, hoff e he]

theorem State.Books.roundSend (h : s.Books) (hlaw : s.WindowLaw) : s.roundSend.Books := by
  unfold State.roundSend
  split
  · next hmay =>
    obtain ⟨hidle, hup, -⟩ := State.mayResend_iff.mp hmay
    split
    · exact h
    · split
      · exact h.resendEntry hlaw hidle hup _ _
      · exact h
  · exact h

theorem State.Books.rejectSend (h : s.Books) : s.rejectSend.Books := by
  unfold State.rejectSend
  split
  · next hmay =>
    obtain ⟨hidle, -⟩ := hmay
    have owed : SameBooks s { s with engine := { s.engine with rejectOwed := false } } := withEngine_same s rfl
    exact h.same (owed.trans (State.startFrame_same (by simpa [State.atBoundary] using hidle) _ _))
  · exact h

theorem State.Books.flowSend (h : s.Books) (which : FlowFrame) (kind : FrameType) (code : BitVec 4) :
    (s.flowSend which kind code).Books := by
  unfold State.flowSend
  split
  · next hmay =>
    obtain ⟨hidle, -⟩ := hmay
    have owed : SameBooks s { s with engine := { s.engine with flowOwed := .none } } := withEngine_same s rfl
    exact h.same (owed.trans (State.startFrame_same (by simpa [State.atBoundary] using hidle) _ _))
  · exact h

theorem State.Books.ackSend (h : s.Books) : s.ackSend.Books := by
  unfold State.ackSend
  split
  · next hmay => exact h.same (State.startFrame_same (State.mayAck_iff.mp hmay).1 _ _)
  · exact h

theorem State.Books.helloSend (h : s.Books) : s.helloSend.Books := by
  unfold State.helloSend
  split
  · next hmay =>
    have hidle := (State.mayHello_iff.mp hmay).1
    have due : SameBooks s { s with link := { s.link with helloDue := false } } := withLink_same s _
    exact h.same (due.trans (State.startFrame_same (by exact hidle) _ _))
  · exact h

theorem State.Books.transmissionEnd (h : s.Books) : s.transmissionEnd.Books := by
  unfold State.transmissionEnd
  split
  · exact h
  · rw [State.restartIdleTimer_eq]
    exact (h.endTransmission _).same (withLink_same _ _)

/-! ### An arbitration -/

theorem State.deferTo_same (s : State) (w : Port) : SameBooks s (s.deferTo w) := by
  refine .of_eq (fun q => ?_) rfl rfl rfl rfl rfl
  rw [State.port_deferTo]
  exact ⟨rfl, rfl, rfl, rfl, rfl⟩

theorem entryFrames_entryOf (s : State) (w : Port) (f : Frame) (q : Port) :
    entryFrames [s.entryOf w f] q = if q = w then [{ f with state := .inWindow }] else [] := by
  by_cases hq : w = q
  · simp [entryFrames, State.entryOf, hq]
  · simp [entryFrames, State.entryOf, hq, Ne.symm hq]

theorem reportedFrames_entryOf (s : State) (w : Port) (f : Frame) (q : Port) :
    reportedFrames [s.entryOf w f] q = if q = w then [{ f with state := .inWindow }] else [] := by
  by_cases hq : w = q
  · simp [reportedFrames, State.entryOf, hq]
  · simp [reportedFrames, State.entryOf, hq, Ne.symm hq]

/-- The winner's head frame goes from its queue into the window and onto the line (R48). -/
theorem State.Books.admitToWindow (h : s.Books) (hidle : s.framer.tx = .idle) (hup : s.link.state = .up) (w : Port) :
    (s.admitToWindow w).Books := by
  cases hqueue : (s.port w).queue with
  | nil =>
    unfold State.admitToWindow
    rw [hqueue]
    exact h
  | cons f rest =>
    have heq := State.admitToWindow_eq hqueue hup
    have hport := State.port_admitToWindow hqueue hup
    have hoff := h.onLine.off hidle
    generalize s.admitToWindow w = t at *
    have hwindow : t.engine.window = s.engine.window ++ [s.entryOf w f] := by rw [heq]
    have hline (q : Port) : t.lineFrames q = s.lineFrames q := by
      rw [State.lineFrames_idle hidle]
      exact State.lineFrames_unheld (by rw [heq]) rfl q
    have hmoved (q : Port) :
        lotsOf (t.port q).queue + lotsOf (entryFrames [s.entryOf w f] q) = lotsOf (s.port q).queue := by
      rw [hport, entryFrames_entryOf]
      by_cases hq : q = w
      · subst hq
        rw [if_pos rfl, if_pos rfl, hqueue, add_comm]
        exact (lotsOf_append [f] rest).symm
      · simp [hq]
    have hnotifies : ([{ f with state := .inWindow }].filter Frame.notifies).length = ([f].filter Frame.notifies).length := by
      cases hf : f.notifies
      all_goals
        have hf' : Frame.notifies { f with state := .inWindow } = f.notifies := rfl
        simp [hf, hf']
    refine ⟨h.accounts.same_lots (fun q => ?_) (fun q => by rw [hport]) (by rw [heq]) (by rw [heq]),
      h.references.of_eq (by rw [heq]) fun q => by rw [hport], fun q => ?_, ?_, ?_⟩
    · rw [State.lots_eq, State.lots_eq, hwindow, entryFrames_append, lotsOf_append, ← hmoved q,
        State.storeFrames_congr (s := s) (by rw [heq]), hline, hport]
      ac_rfl
    · obtain ⟨hplaces, hreserved, hcount⟩ := h.completions q
      rw [State.slotsOwed_eq] at hreserved
      rw [State.transmitCount_eq] at hcount
      rw [State.slotsOwed_eq, State.transmitCount_eq, hwindow, reportedFrames_append, entryFrames_append,
        reportedFrames_entryOf, entryFrames_entryOf]
      rw [hport]
      refine ⟨hplaces, hreserved.trans ?_, le_of_eq_of_le ?_ hcount⟩
      all_goals by_cases hq : q = w
      · subst hq
        rw [if_pos rfl, if_pos rfl, hqueue, ← List.singleton_append]
        simp only [List.filter_append, List.length_append, hnotifies]
        omega
      · simp [hq]
      · subst hq
        rw [if_pos rfl, if_pos rfl, hqueue, List.length_append, List.length_singleton, List.length_cons]
        dsimp only
        omega
      · simp [hq]
    · rw [hwindow, List.filter_append, List.filter_eq_nil_iff.mpr fun e he => by simp [hoff e he]]
      exact List.length_filter_le _ _
    · intro _
      rw [heq]

theorem State.Books.arbitrate (h : s.Books) : s.arbitrate.Books := by
  unfold State.arbitrate
  split
  · next hmay =>
    obtain ⟨hidle, hup, -⟩ := State.mayArbitrate_iff.mp hmay
    split
    · exact (h.same (s.deferTo_same _)).admitToWindow hidle hup _
    · exact h
  · exact h

/-! ### The timers and the silent line -/

theorem State.Books.helloExpiry (h : s.Books) : s.helloExpiry.Books := by
  unfold State.helloExpiry
  split
  · exact h
  · exact h.same (withLink_same s _)

theorem State.Books.missedInterval (h : s.Books) : s.missedInterval.Books := by
  have missed := h.same (withLink_same s { s.link with lossCount := s.link.lossCount + 1 })
  unfold State.missedInterval
  dsimp only
  split
  · split
    · exact missed.same (State.enterSeeking_same _)
    · exact missed.leaveUp _
    all_goals exact missed
  · exact missed

theorem State.Books.intervalExpiry (h : s.Books) : s.intervalExpiry.Books := by
  unfold State.intervalExpiry
  split
  · exact h
  · dsimp only
    split
    · exact h.same (withLink_same s _)
    · exact (h.same (withLink_same s _)).missedInterval

theorem State.Books.holdOffExpiry (h : s.Books) : s.holdOffExpiry.Books := by
  unfold State.holdOffExpiry
  split
  · exact h
  · split
    · exact h.same s.enterSeeking_same
    · exact h

theorem State.Books.flushTimerExpiry (h : s.Books) : s.flushTimerExpiry.Books := by
  unfold State.flushTimerExpiry
  split
  · exact h
  · exact h.flushExpiry

theorem State.Books.ackTimerExpiry (h : s.Books) : s.ackTimerExpiry.Books := by
  unfold State.ackTimerExpiry
  split
  · exact h.retryFrom _
  · exact h

theorem State.Books.ackDelayExpiry (h : s.Books) : s.ackDelayExpiry.Books := by
  unfold State.ackDelayExpiry
  split
  · exact h.same (withEngine_same s rfl)
  · exact h
  · exact h

theorem State.Books.haltTimerExpiry (h : s.Books) : s.haltTimerExpiry.Books := by
  unfold State.haltTimerExpiry
  split
  · exact h.leaveUp _
  · exact h

theorem State.Books.silence (h : s.Books) : s.silence.Books := by
  by_cases hwatch : s.framer.watch = .running
  · have silent : s.silent.Books := by
      rw [← State.cutOff_hunting]
      exact (h.cutOff .hunting).same (.of_ports rfl rfl rfl rfl rfl rfl)
    rw [State.silence_of_running hwatch]
    split
    · exact silent.leaveUp _
    · split
      · exact silent.same (State.enterSeeking_same _)
      · exact silent
  · rw [State.silence_of_not_running hwatch]
    exact h

end

end Sys2Proof.Machine
end

section
/-! SUPPORT. Delivery keeps the books (R12 to R14, R123, R136). -/

namespace Sys2Proof.Machine

section
variable {s t v : State} {f : Frame} {targets : HostSet} {source : Source} {first : Option Nat} {sender : Option Port}

/-! ### What a delivery leaves of what the laws read -/

/-- A delivery leaves slots, queues, completion lists, window and framer. -/
theorem State.deliver_leaves (s : State) (f : Frame) (targets : HostSet) (source : Source) (first : Option Nat)
    (sender : Option Port) :
    let t := s.deliver f targets source first sender
    (∀ q, (t.port q).slot = (s.port q).slot ∧ (t.port q).queue = (s.port q).queue ∧ (t.port q).cpl = (s.port q).cpl) ∧
      t.engine.window = s.engine.window ∧ t.framer = s.framer := by
  obtain ⟨heq, hport⟩ := s.deliver_eq f targets source first sender
  obtain ⟨hsettled, -, hpaid⟩ := s.settledAccount_eq f targets sender
  have hframe := s.deliver_frame f targets source first sender
  refine ⟨fun q => ?_, ?_, ?_⟩
  · rw [hport, deliveredTo_eq, State.port_settlePool_eq, hpaid]
    exact ⟨rfl, rfl, rfl⟩
  · rw [heq]
    show (s.settledAccount f targets sender).settlePool.engine.window = _
    rw [(State.settlePool_lineKept _).window, hsettled]
  · rw [hframe]

/-- The holdings, the pool, the frame store and the receive lists after a delivery. -/
theorem State.deliver_accounts (s : State) (f : Frame) (targets : HostSet) (source : Source) (first : Option Nat)
    (sender : Option Port) :
    let t := s.deliver f targets source first sender
    let payer := s.choosePayer f.cellCount (s.roomSet targets) sender
    (∀ q, (t.port q).holdings = (paidOver f.cellCount sender payer q (s.port q)).holdings) ∧
      (∀ q, (t.port q).rx.records =
        if (s.deliveredSet f.cellCount targets sender).has q = true then
          (s.port q).rx.records ++ [s.deliveryRecord f targets source first]
        else (s.port q).rx.records) ∧
      t.frames = s.storedFrames f targets sender ∧
      t.pool =
        { s.pool with
          free := s.pool.free + (if payer = none then f.cellCount else 0)
          inbound := s.pool.inbound - (if sender = none then f.cellCount else 0)
          freeCells := if payer = none then s.pool.freeCells ++ f.cells else s.pool.freeCells
          level := t.pool.level } := by
  intro t payer
  obtain ⟨heq, hport⟩ := s.deliver_eq f targets source first sender
  obtain ⟨-, hpool, hpaid⟩ := s.settledAccount_eq f targets sender
  refine ⟨fun q => ?_, fun q => ?_, ?_, ?_⟩
  · rw [show t.port q = _ from hport q, deliveredTo_eq, State.port_settlePool_eq, hpaid]
  · rw [show t.port q = _ from hport q, deliveredTo_eq, State.port_settlePool_eq, hpaid]
    rfl
  · rw [show t = _ from heq]
  · rw [show t = _ from heq]
    show (s.settledAccount f targets sender).settlePool.pool = _
    rw [State.settlePool_pool, hpool]

/-! ### References -/

theorem State.isSome_frame? {n : Nat} : (s.frame? n).isSome = true ↔ n ∈ s.frames.map (·.1) := by
  rw [Option.isSome_iff_ne_none, ne_eq, State.frame?_eq_none, not_not]

theorem State.choosePayer_has {k : Nat} {room : HostSet} {y : Port} (h : s.choosePayer k room sender = some y) :
    room.has y = true := by
  unfold State.choosePayer at h
  have able (h : (room.ports.find? fun q => (s.port q).canPay k) = some y) : room.has y = true :=
    HostSet.mem_ports.mp (List.mem_of_find?_eq_some h)
  cases sender with
  | none => exact able h
  | some p =>
    dsimp only at h
    split at h
    · exact Option.some.inj h ▸ ‹_›
    · exact able h

theorem length_filter_eq_sum {α : Type} (f : α → Bool) (l : List α) :
    (l.filter f).length = (l.map fun x => if f x = true then 1 else 0).sum := by
  induction l with
  | nil => rfl
  | cons x l ih =>
    rw [List.filter_cons, List.map_cons, List.sum_cons, ← ih]
    split
    · exact Nat.add_comm ..
    · exact (Nat.zero_add _).symm

theorem HostSet.length_ports (h : HostSet) :
    h.ports.length = (Port.all.map fun q => if h.has q = true then 1 else 0).sum := length_filter_eq_sum _ _

/-- A delivered frame is referred to by the records of the targets with room, its payer among them (R14, R136). -/
theorem State.ReferenceLaw.deliver (h : s.ReferenceLaw) : (s.deliver f targets source first sender).ReferenceLaw := by
  obtain ⟨-, hrecords, hframes, -⟩ := s.deliver_accounts f targets source first sender
  generalize s.deliver f targets source first sender = t at *
  cases hpayer : s.choosePayer f.cellCount (s.roomSet targets) sender with
  | none =>
    refine h.of_eq ?_ fun q => ?_
    · rw [hframes]
      simp only [State.storedFrames, hpayer]
    · rw [hrecords]
      simp [State.deliveredSet, hpayer, HostSet.has_empty]
  | some y =>
    obtain ⟨hnodup, hcounts, hone, hstored⟩ := h
    have hfresh := s.freshFrame_not_mem
    simp only [State.storedFrames, hpayer] at hframes
    simp only [State.deliveredSet, hpayer] at hrecords
    have hcount (q : Port) (n : Nat) : t.recordsOf q n =
        s.recordsOf q n + if (s.roomSet targets).has q = true ∧ n = s.freshFrame then 1 else 0 := by
      unfold State.recordsOf
      rw [hrecords]
      by_cases hroom : (s.roomSet targets).has q = true
      · by_cases hn : n = s.freshFrame
        · simp [hroom, hn, State.deliveryRecord]
        · simp [hroom, hn, Ne.symm hn, State.deliveryRecord]
      · simp [hroom]
    have hnone (q : Port) : s.recordsOf q s.freshFrame = 0 := by
      unfold State.recordsOf
      rw [List.length_eq_zero_iff, List.filter_eq_nil_iff]
      intro r hr hfr
      have hmem := State.isSome_frame?.mp (hstored q r hr)
      rw [beq_iff_eq.mp hfr] at hmem
      exact hfresh hmem
    have hkeys : t.frames.map (·.1) = s.frames.map (·.1) ++ [s.freshFrame] := by rw [hframes]; simp
    refine ⟨?_, fun x hx => ?_, fun q n => ?_, fun q r hr => ?_⟩
    · rw [hkeys]
      exact List.nodup_append.mpr ⟨hnodup, List.nodup_singleton _, fun a ha b hb hab =>
        hfresh (List.mem_singleton.mp hb ▸ hab ▸ ha)⟩
    · rw [hframes] at hx
      obtain hx | hx := List.mem_append.mp hx
      · have hne : x.1 ≠ s.freshFrame := fun heq => hfresh (heq ▸ List.mem_map_of_mem hx)
        simpa [hcount, hne] using hcounts x hx
      · obtain rfl := List.mem_singleton.mp hx
        refine ⟨y, rfl, ?_, ?_⟩
        · rw [hcount, hnone, if_pos ⟨State.choosePayer_has hpayer, rfl⟩]
        · simp [hcount, hnone, HostSet.length_ports]
    · rw [hcount]
      split
      · next hn =>
        rw [hn.2, hnone]
      · exact hone q n
    · rw [State.isSome_frame?, hkeys]
      rw [hrecords] at hr
      split at hr
      · obtain hr | hr := List.mem_append.mp hr
        · exact List.mem_append_left _ (State.isSome_frame?.mp (hstored q r hr))
        · obtain rfl := List.mem_singleton.mp hr
          exact List.mem_append_right _ (List.mem_singleton.mpr rfl)
      · exact List.mem_append_left _ (State.isSome_frame?.mp (hstored q r hr))

/-! ### Accounts -/

/-- The lots of one port alone. -/
def lotsAt (y : Option Port) (m : Multiset (List Nat × Nat)) (q : Port) : Multiset (List Nat × Nat) :=
  if y = some q then m else 0

theorem lotCount_lotsAt (y : Option Port) (m : Multiset (List Nat × Nat)) (q : Port) :
    lotCount (lotsAt y m q) = if y = some q then lotCount m else 0 := by
  unfold lotsAt
  split <;> rfl

theorem overPorts_lotsAt (y : Option Port) (m : Multiset (List Nat × Nat)) :
    overPorts (lotsAt y m) = if y = none then 0 else m := by
  cases y with
  | none => rfl
  | some p => cases p <;> simp [overPorts, lotsAt]

/-- A delivered frame is paid for by its payer (R12, R13). -/
theorem State.lotsOf_storeFrames_deliver (s : State) (f : Frame) (targets : HostSet) (source : Source) (first : Option Nat)
    (sender : Option Port) (q : Port) :
    lotsOf ((s.deliver f targets source first sender).storeFrames q) =
      lotsOf (s.storeFrames q) + lotsAt (s.choosePayer f.cellCount (s.roomSet targets) sender) (lotsOf [f]) q := by
  obtain ⟨-, -, hframes, -⟩ := s.deliver_accounts f targets source first sender
  unfold State.storeFrames lotsAt
  rw [hframes]
  unfold State.storedFrames
  cases s.choosePayer f.cellCount (s.roomSet targets) sender with
  | none => simp
  | some y =>
    dsimp only
    rw [List.filter_append, List.map_append, lotsOf_append]
    by_cases hq : y = q
    · simp [hq, lotsOf, Frame.lot, Frame.cellCount]
    · simp [hq]

theorem State.lots_deliver (s : State) (f : Frame) (targets : HostSet) (source : Source) (first : Option Nat)
    (sender : Option Port) (q : Port) :
    (s.deliver f targets source first sender).lots q =
      s.lots q + lotsAt (s.choosePayer f.cellCount (s.roomSet targets) sender) (lotsOf [f]) q := by
  have hstore := s.lotsOf_storeFrames_deliver f targets source first sender q
  obtain ⟨hport, hwindow, hframer⟩ := s.deliver_leaves f targets source first sender
  obtain ⟨hslot, hqueue, -⟩ := hport q
  generalize s.deliver f targets source first sender = t at *
  rw [State.lots_eq, State.lots_eq, hslot, hqueue, hwindow, hstore, State.lineFrames_congr (s := s) (by rw [hframer])]
  ac_rfl

/-! ### A received frame -/

theorem State.CompletionLaw.of_eq (h : s.CompletionLaw) (hqueue : ∀ q, (t.port q).queue = (s.port q).queue)
    (hcpl : ∀ q, (t.port q).cpl = (s.port q).cpl) (hwindow : t.engine.window = s.engine.window) : t.CompletionLaw := by
  intro q
  obtain ⟨hplaces, hreserved, hcount⟩ := h q
  refine ⟨?_, ?_, ?_⟩
  · unfold PortState.completions
    rw [hcpl]
    exact hplaces
  · rw [State.slotsOwed_eq, hcpl, hqueue, hwindow, ← State.slotsOwed_eq]
    exact hreserved
  · rw [State.transmitCount_eq, hqueue, hwindow, ← State.transmitCount_eq]
    exact hcount

/-- From s to t the cells of a received frame have left the inbound account: its payer pays for them, or they are free
(R12, R121). -/
structure Placed (f : Frame) (payer : Option Port) (s t : State) : Prop where
  lots : ∀ q, t.lots q = s.lots q + lotsAt payer (lotsOf [f]) q
  holdings : ∀ q, (t.port q).holdings = (s.port q).holdings + if payer = some q then f.cellCount else 0
  queue : ∀ q, (t.port q).queue = (s.port q).queue
  cpl : ∀ q, (t.port q).cpl = (s.port q).cpl
  window : t.engine.window = s.engine.window
  framer : t.framer = s.framer
  references : s.ReferenceLaw → t.ReferenceLaw
  pool : t.pool =
    { s.pool with
      free := s.pool.free + (if payer = none then f.cellCount else 0), inbound := s.pool.inbound - f.cellCount
      freeCells := if payer = none then s.pool.freeCells ++ f.cells else s.pool.freeCells, level := t.pool.level }

theorem State.deliver_placed (s : State) (f : Frame) (targets : HostSet) (source : Source) (first : Option Nat) :
    Placed f (s.choosePayer f.cellCount (s.roomSet targets) none) s (s.deliver f targets source first none) := by
  have hlots := s.lots_deliver f targets source first none
  obtain ⟨hport, hwindow, hframer⟩ := s.deliver_leaves f targets source first none
  obtain ⟨hholdings, -, -, hpool⟩ := s.deliver_accounts f targets source first none
  refine ⟨hlots, fun q => ?_, fun q => (hport q).2.1, fun q => (hport q).2.2, hwindow, hframer, fun h => h.deliver, ?_⟩
  · rw [hholdings]
    simp [paidOver]
  · rw [hpool]
    rfl

theorem State.refundAccount_placed (s : State) (f : Frame) : Placed f none s (s.refundAccount none f) :=
  ⟨fun _ => (add_zero _).symm, fun _ => rfl, fun _ => rfl, fun _ => rfl, rfl, rfl, id, rfl⟩

theorem Placed.same {payer : Option Port} {u : State} (h : Placed f payer s t) (hu : SameBooks t u)
    (hwindow : u.engine.window = t.engine.window) (hframer : u.framer = t.framer)
    (hpool : u.pool = { t.pool with level := u.pool.level }) : Placed f payer s u where
  lots q := (hu.lots q).trans (h.lots q)
  holdings q := (hu.port q).holdings.trans (h.holdings q)
  queue q := (hu.port q).queue.trans (h.queue q)
  cpl q := (hu.port q).cpl.trans (h.cpl q)
  window := hwindow.trans h.window
  framer := hframer.trans h.framer
  references hs := (h.references hs).of_eq hu.frames fun q => (hu.port q).records
  pool := by rw [hpool, h.pool]

theorem State.unclaimedFrame_placed (s : State) (f : Frame) : Placed f none s (s.unclaimedFrame f) := by
  have judged := (s.refundAccount_placed f).same (State.settlePool_same _) (State.settlePool_lineKept _).window
    (State.settlePool_framer _) (by rw [State.settlePool_pool])
  have counted := judged.same (u :=
    { (s.refundAccount none f).settlePool with
      classifier :=
        { (s.refundAccount none f).settlePool.classifier with
          unclaimed := saturatingSucc (s.refundAccount none f).settlePool.classifier.unclaimed } })
    (.of_ports rfl rfl rfl rfl rfl rfl) rfl rfl rfl
  unfold State.unclaimedFrame
  dsimp only
  split
  · exact counted.same (State.raise_same _ _ _) rfl rfl rfl
  · exact counted

theorem State.classify_placed (s : State) (f : Frame) (address : Word) :
    ∃ payer, Placed f payer s (s.classify f address) := by
  have scanned {t : State} {payer : Option Port} (h : Placed f payer (s.scanned address) t) : Placed f payer s t :=
    ⟨h.lots, h.holdings, h.queue, h.cpl, h.window, h.framer, h.references, h.pool⟩
  by_cases h : (scanFrom address 0 s.classifier.active).hosts = 0#4
  · by_cases hdefault : s.params.defaultHostSet = 0#4
    · rw [State.classify_of_unclaimed f h hdefault]
      exact ⟨_, scanned (State.unclaimedFrame_placed _ _)⟩
    · rw [State.classify_of_default f h hdefault]
      exact ⟨_, scanned (State.deliver_placed _ _ _ _ _)⟩
  · rw [State.classify_of_claimed f h]
    exact ⟨_, scanned (State.deliver_placed _ _ _ _ _)⟩

/-- The state in which an accepted frame is looked up: its cells are out of the inbound account, which still counts them
(R97). -/
def State.takenOver (s : State) : State :=
  State.oweAck
    { s with
      framer := { s.framer with stored := [] }
      pool := { s.pool with inboundCells := [] }
      engine := { s.engine with vr := s.engine.vr + 1, rejectOutstanding := false, rejectOwed := false } }

theorem State.acceptFrame_eq (s : State) :
    s.acceptFrame = s.takenOver.classify (s.framer.receivedFrame s.pool.inboundCells) s.framer.addressField := rfl

theorem State.takenOver_eq (s : State) :
    s.takenOver =
      { s with
        framer := { s.framer with stored := [] }
        pool := { s.pool with inboundCells := [] }
        engine := s.takenOver.engine } ∧ s.takenOver.engine.window = s.engine.window := by
  unfold State.takenOver State.oweAck
  dsimp only
  split <;> exact ⟨rfl, rfl⟩

theorem State.Books.acceptFrame (h : s.Books) : s.acceptFrame.Books := by
  obtain ⟨payer, hplaced⟩ := s.takenOver.classify_placed (s.framer.receivedFrame s.pool.inboundCells) s.framer.addressField
  obtain ⟨hfrom, hsameWindow⟩ := s.takenOver_eq
  rw [State.acceptFrame_eq]
  have hcount : (s.framer.receivedFrame s.pool.inboundCells).cellCount = s.pool.inbound := h.accounts.stored.symm
  have hcells : (s.framer.receivedFrame s.pool.inboundCells).cells = s.pool.inboundCells := rfl
  generalize s.framer.receivedFrame s.pool.inboundCells = f at *
  generalize s.takenOver.classify f s.framer.addressField = t at *
  generalize s.takenOver = v at *
  obtain ⟨hlots, hholdings, hqueue, hcpl, hwindow, hframer, hreferences, hpool⟩ := hplaced
  have hport (q : Port) : v.port q = s.port q := by rw [hfrom]; rfl
  have hframes : v.frames = s.frames := by rw [hfrom]
  have htx : v.framer.tx = s.framer.tx := by rw [hfrom]
  have hbefore (q : Port) : v.lots q = s.lots q := by
    rw [State.lots_eq, State.lots_eq, hport, hsameWindow, State.lineFrames_congr htx, State.storeFrames_congr hframes]
  have hvpool : v.pool = { s.pool with inboundCells := [] } := by rw [hfrom]
  rw [hvpool] at hpool
  refine ⟨?_, hreferences (h.references.of_eq hframes fun q => by rw [hport]), ?_, ?_⟩
  · refine h.accounts.transfer (fun _ => 0) (lotsAt payer (lotsOf [f])) (fun q => ?_) (fun q => ?_) ?_ ?_ ?_
      (fun q x hx => ?_) ?_
    · rw [hlots, hbefore, add_zero]
    · rw [hholdings, hport, lotCount_lotsAt]
      simp [cellsOf]
    · rw [hpool, hframer, hfrom]
      simp [hcount, cellsFor_zero]
    · rw [hpool]
      have hlength := h.accounts.inbound
      split <;> simp [hcount, hcells, h.accounts.free, hlength]
    · rw [hpool]
      simp [hcount]
    · unfold lotsAt at hx
      split at hx
      · obtain rfl : x = f.lot := by simpa [lotsOf] using hx
        show f.cells.length = f.cellCount
        rw [hcells, hcount, h.accounts.inbound]
      · exact absurd hx (Multiset.notMem_zero _)
    · rw [hpool, overPorts_lotsAt, overPorts_zero]
      cases payer with
      | none => simp [hcells, ← Multiset.coe_add]
      | some y => simp [hcells, cellList]
  · exact h.completions.of_eq (fun q => by rw [hqueue, hport]) (fun q => by rw [hcpl, hport]) (hwindow.trans hsameWindow)
  · exact h.onLine.of_eq (hwindow.trans hsameWindow) (by rw [hframer, htx])

end

end Sys2Proof.Machine
end

section
/-! SUPPORT. The receive line keeps the books. -/

namespace Sys2Proof.Machine

section
variable {s t : State}

/-! ### Octets -/

/-- A change of the framer that leaves the transmission, and what is stored but for its length in cells. -/
theorem withFramer_same (f : Framer) (htx : f.tx = s.framer.tx)
    (hstored : cellsFor f.stored.length = cellsFor s.framer.stored.length) : SameBooks s { s with framer := f } :=
  ⟨fun _ => .refl _, rfl, rfl, rfl, rfl, rfl, fun _ => rfl, fun _ => rfl, State.lineFrames_congr htx, hstored,
    fun h => h.of_eq rfl htx⟩

/-- An octet that does not start a cell needs none (R2, R8). -/
theorem cellsFor_succ (n : Nat) : cellsFor (n + 1) = cellsFor n + if n % 64 = 0 then 1 else 0 := by
  have hdef (m : Nat) : cellsFor m = (m + 63) / 64 := rfl
  rw [hdef, hdef]
  split <;> omega

theorem State.keepOctet_same (s : State) (b : Byte) (h : s.framer.stored.length % 64 ≠ 0) : SameBooks s (s.keepOctet b) := by
  refine withFramer_same _ rfl ?_
  rw [List.length_append, List.length_singleton, cellsFor_succ, if_neg h, Nat.add_zero]

theorem State.Books.grantInbound_keepOctet (h : s.Books) (b : Byte) (hstarts : s.framer.stored.length % 64 = 0)
    (hfree : 1 ≤ s.pool.free) : (s.grantInbound.keepOctet b).Books := by
  obtain ⟨hdrawn, hperm⟩ := drawCells_perm s.freeTick 1 s.pool.freeCells (h.accounts.free ▸ hfree)
  rw [State.grantInbound_keepOctet]
  generalize drawCells s.freeTick 1 s.pool.freeCells = drawn at hdrawn hperm ⊢
  refine State.Books.same ⟨?_, ?_, ?_, ?_⟩ (State.settlePool_same _)
  · refine h.accounts.transfer (fun _ => 0) (fun _ => 0) (fun _ => rfl) (fun _ => rfl) ?_ ?_ ?_ (fun _ _ hx => ?_) ?_
    · show s.pool.inbound + 1 = cellsFor (s.framer.stored ++ [b]).length
      rw [List.length_append, List.length_singleton, cellsFor_succ, if_pos hstarts, h.accounts.stored]
    · show drawn.2.length = s.pool.free - 1
      have hlength := hperm.length_eq
      rw [List.length_append, h.accounts.free] at hlength
      omega
    · show (s.pool.inboundCells ++ drawn.1).length = s.pool.inbound + 1
      rw [List.length_append, h.accounts.inbound, hdrawn]
    · exact absurd hx (Multiset.notMem_zero _)
    · have hcells := Multiset.coe_eq_coe.mpr hperm
      show (↑drawn.2 + ↑(s.pool.inboundCells ++ drawn.1) + lotCells (overPorts fun _ => 0) : Multiset Nat) = _
      rw [← hcells, ← Multiset.coe_add, ← Multiset.coe_add]
      ac_rfl
  · exact h.references.of_eq rfl fun _ => rfl
  · exact h.completions.of_eq (fun _ => rfl) (fun _ => rfl) rfl
  · exact h.onLine.of_eq rfl rfl

theorem State.Books.abandonFrame (h : s.Books) : s.abandonFrame.Books :=
  h.releaseInbound.same (.of_ports rfl rfl rfl rfl rfl rfl)

theorem State.Books.invalidFrame (h : s.Books) : s.invalidFrame.Books :=
  h.releaseInbound.same (.of_ports rfl rfl rfl rfl rfl rfl)

theorem State.Books.storeOctet (h : s.Books) (b : Byte) : (s.storeOctet b).Books := by
  unfold State.storeOctet
  split_ifs with hstarts hfree
  · exact h.grantInbound_keepOctet b hstarts (by omega)
  · exact h.abandonFrame
  · exact h.same (s.keepOctet_same b hstarts)

theorem State.Books.holdOctet (h : s.Books) (b : Byte) : (s.holdOctet b).Books := by
  unfold State.holdOctet
  split
  · dsimp only
    split
    · next y _ _ => exact (h.same (withFramer_same { s.framer with hold := [y, b] } rfl rfl)).storeOctet _
    · exact h.same (withFramer_same _ rfl rfl)
  · exact h.same (withFramer_same _ rfl rfl)

theorem State.Books.frameOctet (h : s.Books) (b : Byte) : (s.frameOctet b).Books := by
  have taken : State.Books { s with framer := s.framer.takeOctet b } := h.same (withFramer_same _ rfl rfl)
  rw [State.frameOctet_eq]
  dsimp only
  split_ifs
  · exact (h.same (withFramer_same { s.framer.takeOctet b with rxState := .hunting } rfl rfl)).invalidFrame
  · exact taken.same (withFramer_same _ rfl rfl)
  · exact taken.holdOctet b
  · exact taken
  · exact taken

theorem State.Books.frameLineOctet (h : s.Books) (o : Byte) : (s.frameLineOctet o).Books := by
  unfold State.frameLineOctet
  split_ifs
  · exact (h.same (withFramer_same
      { s.framer with
        escPending := false
        badEscape := s.framer.badEscape || (o != 0xE9#8 && o != 0xE8#8) } rfl rfl)).frameOctet _
  · exact h.same (withFramer_same _ rfl rfl)
  · exact h.frameOctet o

/-! ### Frames handed on -/

theorem State.oweAck_same (s : State) : SameBooks s s.oweAck := by
  unfold State.oweAck
  split
  · exact .refl s
  · exact withEngine_same s rfl

theorem State.oweReject_same (s : State) : SameBooks s s.oweReject := by
  unfold State.oweReject
  split
  · exact .refl s
  · exact withEngine_same s rfl

theorem State.Books.dataInUp (h : s.Books) : s.dataInUp.Books := by
  have released := h.releaseInbound
  unfold State.dataInUp State.discardData
  dsimp only
  split_ifs
  · exact h.acceptFrame
  · exact released.same (State.oweAck_same _)
  · exact released.same (State.oweReject_same _)
  · exact released
  · exact released.same (withEngine_same _ rfl)
  · exact released.same (State.oweReject_same _)

theorem State.Books.rejectInUp (h : s.Books) (n : Seq) : (s.rejectInUp n).Books := by
  unfold State.rejectInUp
  split_ifs
  · exact h
  · exact h
  · exact h
  · exact h.retryFrom n

theorem State.Books.goInUp (h : s.Books) : s.goInUp.Books := by
  rw [State.goInUp_eq]
  exact h.same (withEngine_same s rfl)

theorem State.Books.frameInUp (h : s.Books) (k : FrameType) : (s.frameInUp k).Books := by
  unfold State.frameInUp
  dsimp only
  split
  · have acked : (s.hear.acknowledge s.framer.ackField).Books :=
      (h.same (withLink_same s _)).acknowledge _
    cases k with
    | data => exact acked.dataInUp
    | ack => exact acked
    | reject => exact acked.rejectInUp _
    | halt => exact acked.same (withEngine_same _ rfl)
    | go => exact acked.goInUp
    | hello => exact acked
  · exact h.invalidFrame

theorem State.Books.confirm (h : s.Books) : s.confirm.Books := by
  have counted := h.same (withLink_same s { s.link with confCount := s.link.confCount + 1 })
  unfold State.confirm
  dsimp only
  split
  · exact counted.same (State.enterUp_same _)
  · exact counted

theorem State.Books.handOnHello (h : s.Books) : s.handOnHello.Books := by
  have heard : s.hear.Books := h.same (withLink_same s _)
  unfold State.handOnHello
  split
  · exact h
  · unfold State.helloInSeeking
    dsimp only
    split
    · exact h.loopedBack
    · exact h.same (s.enterConfirming_same _)
  · unfold State.helloInConfirming
    dsimp only
    split_ifs
    · exact h.loopedBack
    · exact h.same (withLink_same s _)
    · exact heard.confirm
    · exact h.same (withLink_same s _)
  · unfold State.helloInUp
    dsimp only
    split_ifs
    · exact h.leaveUp _
    · exact (h.same (withLink_same s _)).leaveUp _
    · exact heard
    · exact h.leaveUp _
  · exact h

theorem State.Books.handOnFrame (h : s.Books) (k : FrameType) : (s.handOnFrame k).Books := by
  have released := h.releaseInbound
  unfold State.handOnFrame
  split
  · exact released
  · exact released
  · exact (released.same (withLink_same _ _)).confirm
  · exact h.frameInUp k
  · exact released

theorem State.Books.closeFrame (h : s.Books) : s.closeFrame.Books := by
  have closed : s.closedBy.Books := h.same (withFramer_same _ rfl rfl)
  unfold State.closeFrame
  dsimp only
  split
  · split
    · exact closed.handOnHello
    · exact closed.handOnFrame _
    · exact closed.invalidFrame
  · exact closed.invalidFrame

theorem State.clockSeen_same (s : State) : SameBooks s { s with framer := s.framer.clockSeen } := withFramer_same _ rfl rfl

theorem State.Books.markerFound (h : s.Books) : s.markerFound.Books := by
  unfold State.markerFound
  split
  · exact h.same (withFramer_same _ rfl rfl)
  · exact h.same (withFramer_same _ rfl rfl)
  · exact h

theorem State.Books.closeOf (h : s.Books) (k : Option FrameType) : (s.closeOf k).Books := by
  unfold State.closeOf
  split
  · exact (h.same s.clockSeen_same).closeFrame
  · exact h.markerFound

theorem State.Books.lineOctet (h : s.Books) (hlaw : s.ReceptionLaw) (o : Byte) : (s.lineOctet o).Books := by
  have clocked := h.same s.clockSeen_same
  unfold State.lineOctet
  dsimp only
  split
  · exact h
  · split
    · exact clocked.same (withFramer_same _ rfl rfl)
    · exact clocked
  · split
    · exact clocked.same (withFramer_same _ rfl rfl)
    · exact clocked
  · next hbetween =>
    split
    · exact clocked
    · have hempty : s.framer.stored = [] := hlaw.stored_eq_nil (by simp [hbetween])
      refine (h.same (withFramer_same s.framer.clockSeen.startReception rfl ?_)).frameLineOctet o
      simp [Framer.startReception, hempty]
  · split
    · exact clocked.closeFrame
    · exact clocked.frameLineOctet o

end

end Sys2Proof.Machine
end

section
/-! SUPPORT. Every event of the trunk and the timers, and every command that leaves frames and records where they are, keeps
the books. -/

namespace Sys2Proof.Machine

section
variable {p : Port} {s t u : State}

/-! ### Events of the trunk and the timers -/

theorem State.passLease_same (s : State) : SameBooks s s.passLease := by
  unfold State.passLease
  split
  · exact .of_ports rfl rfl rfl rfl rfl rfl
  · next q rest _ =>
    have passed : SameBooks s { s with lease := { holder := some q, timer := .running s.params.tLease, waiting := rest } } :=
      .of_ports rfl rfl rfl rfl rfl rfl
    exact passed.trans (State.raise_same _ q .leaseGranted)

theorem State.endHolding_same (s : State) (expired : Bool) : SameBooks s (s.endHolding expired) := by
  have reverted : SameBooks s { s with classifier := s.classifier.revert } := .of_ports rfl rfl rfl rfl rfl rfl
  cases h : s.lease.holder with
  | none =>
    unfold State.endHolding
    rw [h]
    exact .refl s
  | some q =>
    rw [State.endHolding_of_holder h]
    refine (reverted.trans ?_).trans (State.passLease_same _)
    exact .ite (State.raise_same _ q .leaseLost) (.refl _)

theorem State.leaseTimerExpiry_same (s : State) : SameBooks s s.leaseTimerExpiry := by
  unfold State.leaseTimerExpiry
  split
  · exact s.endHolding_same true
  · exact .refl s

theorem TrunkOp.books {op : State → State} (h : TrunkOp op) (hs : s.Books) (hreception : s.ReceptionLaw)
    (hwindow : s.WindowLaw) : (op s).Books := by
  cases h
  case lineOctet o => exact hs.lineOctet hreception o
  case markerFound => exact hs.markerFound
  case closeOf k => exact hs.closeOf k
  case arbitrate => exact hs.arbitrate
  case roundSend => exact hs.roundSend hwindow
  case rejectSend => exact hs.rejectSend
  case haltSend => exact hs.flowSend _ _ _
  case goSend => exact hs.flowSend _ _ _
  case ackSend => exact hs.ackSend
  case helloSend => exact hs.helloSend
  case transmissionEnd => exact hs.transmissionEnd
  case helloExpiry => exact hs.helloExpiry
  case intervalExpiry => exact hs.intervalExpiry
  case holdOffExpiry => exact hs.holdOffExpiry
  case flushTimerExpiry => exact hs.flushTimerExpiry
  case ackTimerExpiry => exact hs.ackTimerExpiry
  case ackDelayExpiry => exact hs.ackDelayExpiry
  case haltTimerExpiry => exact hs.haltTimerExpiry
  case leaseTimerExpiry => exact hs.same s.leaseTimerExpiry_same
  case silence => exact hs.silence
  case clockReturn => exact hs.same s.clockSeen_same

/-! ### The RESET pin, the transaction and the data phase -/

theorem TxnMoved.same (h : TxnMoved p s t) : SameBooks s t := by
  refine .of_eq (fun q => ?_) ?_ ?_ ?_ ?_ ?_
  · rw [h.port q]
    exact ⟨rfl, rfl, rfl, rfl, rfl⟩
  all_goals rw [h.eq]

theorem PortState.appendByte_same (ps : PortState) (r : Result) (b : Byte) : ps.SameBooks (ps.appendByte r b) := by
  unfold PortState.appendByte
  split
  · exact .refl ps
  · next f hslot =>
    split_ifs
    · exact .refl ps
    · exact ⟨by rw [hslot]; rfl, rfl, rfl, rfl, rfl⟩
    · exact ⟨rfl, rfl, rfl, rfl, rfl⟩

theorem State.deviceReset_same (s : State) : SameBooks State.reset s.deviceReset := by
  have hpool : s.deviceReset.pool = State.reset.pool := rfl
  refine .of_eq (fun q => ?_) (by rw [hpool]) rfl rfl rfl rfl
  rw [State.port_reset, State.port_deviceReset]
  exact ⟨rfl, rfl, rfl, rfl, rfl⟩

/-! ### Commands that leave frames and records where they are -/

theorem State.resumePeer_same (s : State) : SameBooks s s.resumePeer := by
  unfold State.resumePeer
  split
  · exact .of_ports rfl rfl rfl rfl rfl rfl
  · exact .refl s

theorem State.afterParameter_same (s : State) (n : Nat) : SameBooks s (s.afterParameter n) := by
  obtain e | e | e := s.afterParameter_cases n <;> rw [e]
  · exact .refl s
  · exact s.resumePeer_same
  · exact .of_eq (fun _ => .refl _) rfl rfl rfl rfl rfl

theorem State.tableCommit_same (s : State) : SameBooks s s.tableCommit := by
  have committed : SameBooks s { s with classifier := s.classifier.commit } := .of_ports rfl rfl rfl rfl rfl rfl
  obtain e | e := s.tableCommit_cases <;> rw [e]
  · exact .refl s
  · exact committed.trans (State.raiseAll_same _ _)

theorem PortState.examineLow_same (ps : PortState) : ps.SameBooks ps.examineLow := by
  unfold PortState.examineLow
  split
  · exact ⟨rfl, rfl, rfl, rfl, rfl⟩
  · exact .refl ps

/-! ### One port's list of completions -/

/-- A change of one port's queue and completion list, under an unchanged window. -/
theorem State.CompletionLaw.at_port (h : s.CompletionLaw) (p : Port)
    (hother : ∀ q, q ≠ p → (t.port q).queue = (s.port q).queue ∧ (t.port q).cpl = (s.port q).cpl)
    (hwindow : t.engine.window = s.engine.window)
    (hplaces : (t.port p).cpl.records.length + (t.port p).cpl.reserved ≤ 16)
    (hreserved : (t.port p).cpl.reserved + ((s.port p).queue.filter Frame.notifies).length =
      (s.port p).cpl.reserved + ((t.port p).queue.filter Frame.notifies).length)
    (hcount : (t.port p).queue.length + (entryFrames s.engine.window p).length ≤ 16) : t.CompletionLaw := by
  intro q
  obtain ⟨hplacesBefore, hreservedBefore, hcountBefore⟩ := h q
  rw [State.slotsOwed_eq, List.filter_append, List.length_append] at hreservedBefore
  rw [State.transmitCount_eq] at hcountBefore
  rw [State.slotsOwed_eq, State.transmitCount_eq, hwindow, List.filter_append, List.length_append]
  unfold PortState.completions at hplacesBefore ⊢
  by_cases hq : q = p
  · subst hq
    exact ⟨hplaces, by omega, hcount⟩
  · obtain ⟨hqueue, hcpl⟩ := hother q hq
    rw [hqueue, hcpl]
    exact ⟨hplacesBefore, hreservedBefore, hcountBefore⟩

theorem State.CompletionLaw.at (h : s.CompletionLaw) (p : Port) :
    (s.port p).cpl.records.length + (s.port p).cpl.reserved ≤ 16 ∧
      ((s.port p).queue.filter Frame.notifies).length ≤ (s.port p).cpl.reserved ∧
      (s.port p).queue.length + (entryFrames s.engine.window p).length ≤ 16 := by
  obtain ⟨hplaces, hreserved, hcount⟩ := h p
  rw [State.slotsOwed_eq, List.filter_append, List.length_append] at hreserved
  rw [State.transmitCount_eq] at hcount
  exact ⟨hplaces, by omega, hcount⟩

theorem State.Books.takeCompletion (h : s.Books) {r : CplRecord} {rest : List CplRecord}
    (hrecords : (s.port p).cpl.records = r :: rest) :
    (s.modPort p fun ps => { ps with cpl := { ps.cpl with records := rest } }).Books := by
  have hother (q : Port) (hq : q ≠ p) :=
    State.port_modPort_ne s (fun ps => { ps with cpl := { ps.cpl with records := rest } }) hq
  have hsame := State.port_modPort_same s p fun ps => { ps with cpl := { ps.cpl with records := rest } }
  generalize ht : (s.modPort p fun ps => { ps with cpl := { ps.cpl with records := rest } }) = t at hother hsame ⊢
  have hport (q : Port) : t.port q = { s.port q with cpl := (t.port q).cpl } := by
    by_cases hq : q = p
    · rw [hq, hsame]
    · rw [hother q hq]
  have heq : t = { s with ports := t.ports } := by rw [← ht]; rfl
  obtain ⟨hplaces, -, hcount⟩ := h.completions.at p
  refine ⟨?_, h.references.of_eq (by rw [heq]) fun q => by rw [hport], h.completions.at_port p ?_ (by rw [heq]) ?_ ?_ ?_,
    h.onLine.of_eq (by rw [heq]) (by rw [heq])⟩
  · refine h.accounts.same_lots (fun q => ?_) (fun q => by rw [hport]) (by rw [heq]) (by rw [heq])
    rw [State.lots_eq, State.lots_eq, State.lineFrames_congr (s := s) (by rw [heq]),
      State.storeFrames_congr (s := s) (by rw [heq]), hport, heq]
  · intro q hq
    rw [hother q hq]
    exact ⟨rfl, rfl⟩
  · rw [hsame]
    rw [hrecords, List.length_cons] at hplaces
    dsimp only
    omega
  · rw [hsame]
  · rw [hsame]
    exact hcount

end

end Sys2Proof.Machine
end

section
/-! SUPPORT. The commands on a port's own frames keep the books (R25 to R38). -/

namespace Sys2Proof.Machine

section
variable {p : Port} {s t : State} {f : Frame} {l : List Frame} {edit : PortState → PortState}

/-! ### Frames that are not yet sent -/

/-- Under an unchanged window, transmission and frame store a port pays for other frames by those of its slot and queue. -/
theorem State.lots_unsent (hwindow : t.engine.window = s.engine.window) (htx : t.framer.tx = s.framer.tx)
    (hframes : t.frames = s.frames) (q : Port) :
    t.lots q + lotsOf (s.port q).unsentFrames = s.lots q + lotsOf (t.port q).unsentFrames := by
  unfold PortState.unsentFrames
  rw [State.lots_eq, State.lots_eq, hwindow, State.lineFrames_congr htx, State.storeFrames_congr hframes, lotsOf_append,
    lotsOf_append]
  ac_rfl

theorem lotsAt_some (p q : Port) (m : Multiset (List Nat × Nat)) : lotsAt (some p) m q = if q = p then m else 0 := by
  simp only [lotsAt, Option.some.injEq, eq_comm]

theorem lotsOf_subset_sized (h : s.Accounts) {q : Port} {m n : Multiset (List Nat × Nat)} (hlots : s.lots q = m + n) :
    ∀ x ∈ n, x.1.length = x.2 :=
  fun x hx => h.sized q x (hlots ▸ Multiset.mem_add.mpr (.inr hx))

/-- Frames of p end: their cells are free (R4). -/
theorem State.Accounts.returned (h : s.Accounts) (hlots : ∀ q, t.lots q + lotsAt (some p) (lotsOf l) q = s.lots q)
    (hholdings : ∀ q, (t.port q).holdings = (s.port q).holdings - if q = p then cellsOf l else 0)
    (hpool : t.pool = { s.pool with free := s.pool.free + cellsOf l, freeCells := s.pool.freeCells ++ cellList l })
    (hstored : t.framer.stored = s.framer.stored) : t.Accounts := by
  have hlotsP : s.lots p = t.lots p + lotsOf l := by rw [← hlots p, lotsAt_some, if_pos rfl]
  have hlength : (cellList l).length = cellsOf l := by
    have hcard := card_lotCells (lotsOf_subset_sized h hlotsP)
    rwa [lotCells_lotsOf, Multiset.coe_card, lotCount_lotsOf] at hcard
  refine h.transfer (lotsAt (some p) (lotsOf l)) (fun _ => 0) (fun q => (hlots q).trans (add_zero _).symm) (fun q => ?_) ?_ ?_
    ?_ (fun _ _ hx => absurd hx (Multiset.notMem_zero _)) ?_
  · have hcount := congrArg lotCount (hlots q)
    rw [lotCount_add, h.held q, lotsAt_some, apply_ite lotCount, lotCount_lotsOf, lotCount_zero] at hcount
    rw [hholdings, lotsAt_some, apply_ite lotCount, lotCount_lotsOf, lotCount_zero]
    omega
  · rw [hpool, hstored]
    exact h.stored
  · rw [hpool, List.length_append, h.free, hlength]
  · rw [hpool]
    exact h.inbound
  · rw [hpool, overPorts_lotsAt, if_neg (Option.some_ne_none p), lotCells_lotsOf, overPorts_zero, lotCells_zero, add_zero,
      ← Multiset.coe_add]
    ac_rfl

/-- Frames that p has not sent end (R4). -/
theorem State.Accounts.unsentEnded (h : s.Accounts) (hholdings : (edit (s.port p)).holdings = (s.port p).holdings)
    (hunsent : lotsOf (edit (s.port p)).unsentFrames + lotsOf l = lotsOf (s.port p).unsentFrames) :
    ((s.modPort p edit).returnFrames p l).Accounts := by
  have hport (q : Port) := (s.modPort p edit).port_returnFrames p q l
  have hpool : ((s.modPort p edit).returnFrames p l).pool =
    { s.pool with free := s.pool.free + cellsOf l, freeCells := s.pool.freeCells ++ cellList l } := rfl
  have hlots (q : Port) := State.lots_unsent (s := s) (t := (s.modPort p edit).returnFrames p l) rfl rfl rfl q
  have hstored : ((s.modPort p edit).returnFrames p l).framer.stored = s.framer.stored := rfl
  generalize (s.modPort p edit).returnFrames p l = t at hport hpool hlots hstored ⊢
  refine h.returned (p := p) (l := l) (fun q => ?_) (fun q => ?_) hpool hstored
  · refine add_right_cancel (b := lotsOf (s.port q).unsentFrames) ?_
    rw [add_right_comm, hlots, hport, lotsAt_some]
    by_cases hq : q = p
    · subst hq
      rw [if_pos rfl, if_pos rfl, State.port_modPort_same, ← hunsent, add_assoc]
      rfl
    · rw [if_neg hq, if_neg hq, State.port_modPort_ne s edit hq, add_zero]
  · rw [hport]
    by_cases hq : q = p
    · subst hq
      rw [if_pos rfl, if_pos rfl, State.port_modPort_same, hholdings]
    · rw [if_neg hq, if_neg hq, State.port_modPort_ne s edit hq]
      rfl

theorem State.Books.unsentEnded (h : s.Books) (hholdings : (edit (s.port p)).holdings = (s.port p).holdings)
    (hunsent : lotsOf (edit (s.port p)).unsentFrames + lotsOf l = lotsOf (s.port p).unsentFrames)
    (hrecords : (edit (s.port p)).rx.records = (s.port p).rx.records)
    (hcpl : (edit (s.port p)).cpl.records = (s.port p).cpl.records)
    (hreserved : (edit (s.port p)).cpl.reserved + ((s.port p).queue.filter Frame.notifies).length =
      (s.port p).cpl.reserved + ((edit (s.port p)).queue.filter Frame.notifies).length)
    (hfewer : ((edit (s.port p)).queue.filter Frame.notifies).length ≤ ((s.port p).queue.filter Frame.notifies).length)
    (hqueue : (edit (s.port p)).queue.length ≤ (s.port p).queue.length) :
    ((s.modPort p edit).returnFrames p l).Books := by
  have hport (q : Port) := (s.modPort p edit).port_returnFrames p q l
  obtain ⟨hplaces, -, hcount⟩ := h.completions.at p
  refine ⟨h.accounts.unsentEnded hholdings hunsent, h.references.of_eq rfl fun q => ?_,
    h.completions.at_port p (fun q hq => ?_) rfl ?_ ?_ ?_, h.onLine.of_eq rfl rfl⟩
  · rw [hport]
    by_cases hq : q = p
    · subst hq
      rw [if_pos rfl, State.port_modPort_same]
      exact hrecords
    · rw [if_neg hq, State.port_modPort_ne s edit hq]
  · rw [hport, if_neg hq, State.port_modPort_ne s edit hq]
    exact ⟨rfl, rfl⟩
  · rw [hport, if_pos rfl, State.port_modPort_same]
    dsimp only
    rw [hcpl]
    omega
  · rw [hport, if_pos rfl, State.port_modPort_same]
    exact hreserved
  · rw [hport, if_pos rfl, State.port_modPort_same]
    dsimp only
    omega

theorem State.Books.discardFrame (h : s.Books) (hslot : (s.port p).slot = some f) :
    ((s.modPort p fun ps => { ps with slot := none }).freeFrame p f).Books := by
  refine (h.unsentEnded (l := [f]) (edit := fun ps => { ps with slot := none }) rfl ?_ rfl rfl rfl le_rfl le_rfl).same
    (State.settlePool_same _)
  have hunsent : (s.port p).unsentFrames = [f] ++ (s.port p).queue := by
    unfold PortState.unsentFrames
    rw [hslot]
    rfl
  rw [hunsent, lotsOf_append, add_comm]
  rfl

/-- The frame that CANCEL takes from the queue (R38). -/
theorem perm_cons_eraseP {α : Type} {c : α → Bool} {l : List α} {x : α} (h : l.find? c = some x) :
    l.Perm (x :: l.eraseP c) := by
  obtain ⟨hx, a, b, rfl, ha⟩ := List.find?_eq_some_iff_append.mp h
  have hb : ∀ y ∈ a, ¬ c y = true := fun y hy => by simpa using ha y hy
  rw [List.eraseP_append_right _ hb, List.eraseP_cons_of_pos hx]
  exact List.perm_middle

theorem State.Books.cancel (h : s.Books) {tag : Byte} (hf : (s.port p).queue.find? (·.hasTag tag) = some f) :
    (s.cancelFrame p tag f).Books := by
  have hperm := perm_cons_eraseP hf
  have hnotify := (hperm.filter Frame.notifies).length_eq
  have hlength := hperm.length_eq
  obtain ⟨-, hreserved, -⟩ := h.completions.at p
  refine (h.unsentEnded (l := [f]) rfl ?_ rfl rfl ?_ ?_ ?_).same (State.settlePool_same _)
  · have htaken : lotsOf (s.port p).queue = lotsOf [f] + lotsOf ((s.port p).queue.eraseP (·.hasTag tag)) :=
      (lotsOf_perm hperm).trans (lotsOf_append [f] _)
    unfold PortState.unsentFrames
    rw [lotsOf_append, lotsOf_append, htaken]
    dsimp only
    ac_rfl
  · rw [List.filter_cons] at hnotify
    dsimp only
    split at hnotify
    · next hn =>
      rw [if_pos hn]
      rw [List.length_cons] at hnotify
      omega
    · next hn =>
      rw [if_neg hn]
      omega
  · rw [hnotify, List.filter_cons]
    split
    · exact Nat.le_succ _
    · exact le_rfl
  · rw [hlength]
    exact Nat.le_succ _

/-! ### A frame opened and committed -/

theorem State.Books.openFrame (h : s.Books) {length : Nat} (hslot : (s.port p).slot = none)
    (hfree : cellsFor length + s.reservedByOthers p ≤ s.pool.free) :
    (s.openSlot p length (cellsFor length)).settlePool.Books := by
  obtain ⟨hdrawn, hperm⟩ := drawCells_perm s.freeTick (cellsFor length) s.pool.freeCells (by rw [h.accounts.free]; omega)
  refine State.Books.same ?_ (State.settlePool_same _)
  have hport (q : Port) : (s.openSlot p length (cellsFor length)).port q =
      if q = p then
        { s.port q with
          slot := some (openedFrame p length (drawCells s.freeTick (cellsFor length) s.pool.freeCells).1)
          holdings := (s.port q).holdings + cellsFor length }
      else s.port q := by
    cases p <;> cases q <;> rfl
  have hlots (q : Port) := State.lots_unsent (s := s) (t := s.openSlot p length (cellsFor length)) rfl rfl rfl q
  have heq : s.openSlot p length (cellsFor length) =
    { s with
      ports := (s.openSlot p length (cellsFor length)).ports
      pool :=
        { s.pool with
          free := s.pool.free - cellsFor length
          freeCells := (drawCells s.freeTick (cellsFor length) s.pool.freeCells).2 }
      freeTick := s.freeTick + cellsFor length } := rfl
  generalize s.openSlot p length (cellsFor length) = t at hport hlots heq ⊢
  generalize drawCells s.freeTick (cellsFor length) s.pool.freeCells = drawn at *
  have hlot : (openedFrame p length drawn.1).lot = (drawn.1, cellsFor length) := rfl
  generalize openedFrame p length drawn.1 = f at *
  have hsame (q : Port) : (t.port q).queue = (s.port q).queue ∧ (t.port q).cpl = (s.port q).cpl ∧
      (t.port q).rx = (s.port q).rx := by
    rw [hport]
    split <;> exact ⟨rfl, rfl, rfl⟩
  refine ⟨?_, h.references.of_eq (by rw [heq]) fun q => by rw [(hsame q).2.2],
    h.completions.of_eq (fun q => (hsame q).1) (fun q => (hsame q).2.1) (by rw [heq]),
    h.onLine.of_eq (by rw [heq]) (by rw [heq])⟩
  have hpool : t.pool = { s.pool with free := s.pool.free - cellsFor length, freeCells := drawn.2 } := by rw [heq]
  refine h.accounts.transfer (fun _ => 0) (lotsAt (some p) (lotsOf [f])) (fun q => ?_) (fun q => ?_) ?_ ?_ ?_
    (fun q x hx => ?_) ?_
  · refine add_right_cancel (b := lotsOf (s.port q).unsentFrames) ?_
    rw [add_zero, hlots, hport, lotsAt_some]
    by_cases hq : q = p
    · subst hq
      rw [if_pos rfl, if_pos rfl]
      unfold PortState.unsentFrames
      rw [hslot, lotsOf_append, lotsOf_append, Option.toList_none, lotsOf_nil, zero_add, add_assoc]
      rfl
    · rw [if_neg hq, if_neg hq, add_zero]
  · rw [hport, lotsAt_some, apply_ite lotCount, lotCount_zero]
    by_cases hq : q = p
    · subst hq
      rw [if_pos rfl, if_pos rfl]
      simp [lotCount, lotsOf, hlot]
    · rw [if_neg hq, if_neg hq]
  · rw [hpool, heq]
    exact h.accounts.stored
  · have hlength := hperm.length_eq
    rw [List.length_append, h.accounts.free] at hlength
    rw [hpool]
    dsimp only
    omega
  · rw [hpool]
    exact h.accounts.inbound
  · unfold lotsAt at hx
    split at hx
    · obtain rfl : x = f.lot := by simpa [lotsOf] using hx
      rw [hlot]
      exact hdrawn
    · exact absurd hx (Multiset.notMem_zero _)
  · have hcells := Multiset.coe_eq_coe.mpr hperm
    have hdrawnCells : lotCells (lotsOf [f]) = ↑drawn.1 := by simp [lotCells, lotsOf, hlot]
    rw [hpool, overPorts_lotsAt, if_neg (Option.some_ne_none p), hdrawnCells, overPorts_zero, lotCells_zero, ← hcells,
      ← Multiset.coe_add]
    dsimp only
    ac_rfl

theorem State.Books.commitTrunk (h : s.Books) {address : Word} {cls tag options : Byte} (hslot : (s.port p).slot = some f)
    (hcount : s.transmitCount p < 16)
    (hplaces : notifyOption options = true → (s.port p).cpl.records.length + (s.port p).cpl.reserved < 16) :
    (s.queueFrame p (f.committed address cls tag options) (notifyOption options)).Books := by
  have hlot : (f.committed address cls tag options).lot = f.lot := rfl
  have hnotify : (f.committed address cls tag options).notifies = notifyOption options := rfl
  generalize f.committed address cls tag options = g at *
  have hsame := State.port_modPort_same s p fun ps =>
    { ps with
      slot := none, queue := ps.queue ++ [g]
      cpl := { ps.cpl with reserved := if notifyOption options then ps.cpl.reserved + 1 else ps.cpl.reserved } }
  have hother (q : Port) (hq : q ≠ p) := State.port_modPort_ne s (fun ps =>
    { ps with
      slot := none, queue := ps.queue ++ [g]
      cpl := { ps.cpl with reserved := if notifyOption options then ps.cpl.reserved + 1 else ps.cpl.reserved } }) hq
  have hlots (q : Port) := State.lots_unsent (s := s) (t := s.queueFrame p g (notifyOption options)) rfl rfl rfl q
  have heq : s.queueFrame p g (notifyOption options) =
    { s with ports := (s.queueFrame p g (notifyOption options)).ports } := rfl
  change (s.queueFrame p g (notifyOption options)).port p = _ at hsame
  change ∀ q, q ≠ p → (s.queueFrame p g (notifyOption options)).port q = _ at hother
  generalize s.queueFrame p g (notifyOption options) = t at hsame hother hlots heq ⊢
  obtain ⟨hplaces', -, hcount'⟩ := h.completions.at p
  rw [State.transmitCount_eq] at hcount
  refine ⟨h.accounts.same_lots (fun q => ?_) (fun q => ?_) (by rw [heq]) (by rw [heq]),
    h.references.of_eq (by rw [heq]) fun q => ?_,
    h.completions.at_port p (fun q hq => ?_) (by rw [heq]) ?_ ?_ ?_, h.onLine.of_eq (by rw [heq]) (by rw [heq])⟩
  · refine add_right_cancel (b := lotsOf (s.port q).unsentFrames) ?_
    rw [hlots]
    by_cases hq : q = p
    · subst hq
      rw [hsame]
      unfold PortState.unsentFrames
      have hmoved : lotsOf [g] = lotsOf [f] := by simp [lotsOf, hlot]
      dsimp only
      rw [hslot, Option.toList_none, List.nil_append, lotsOf_append, lotsOf_append, hmoved, Option.toList_some]
      ac_rfl
    · rw [hother q hq]
  · by_cases hq : q = p
    · rw [hq, hsame]
    · rw [hother q hq]
  · by_cases hq : q = p
    · rw [hq, hsame]
    · rw [hother q hq]
  · rw [hother q hq]
    exact ⟨rfl, rfl⟩
  · rw [hsame]
    dsimp only
    split
    · next hn =>
      have := hplaces hn
      omega
    · exact hplaces'
  · rw [hsame]
    dsimp only
    rw [List.filter_append, List.length_append, List.filter_singleton, hnotify]
    cases notifyOption options with
    | true => simp; omega
    | false => simp
  · rw [hsame]
    dsimp only
    rw [List.length_append, List.length_singleton]
    omega

end

end Sys2Proof.Machine
end

section
/-! SUPPORT. COMMIT LOCAL keeps the books (R35, R36). -/

namespace Sys2Proof.Machine

section
variable {p : Port} {s t : State} {f : Frame}

/-- What COMMIT LOCAL makes of its port behind the delivery: the slot closed, and the completion record with notify (R35,
R36). -/
def PortState.closeLocal (ps : PortState) (notify : Bool) (r : CplRecord) : PortState :=
  if notify = true then
    { ps with slot := none, cpl := { ps.cpl with records := ps.cpl.records ++ [r] }, events := ps.events.raise .txDone }
  else { ps with slot := none }

theorem PortState.closeLocal_eq (ps : PortState) (notify : Bool) (r : CplRecord) :
    ps.closeLocal notify r =
      { ps with
        slot := none, cpl := (ps.closeLocal notify r).cpl, events := (ps.closeLocal notify r).events } ∧
    (ps.closeLocal notify r).cpl.reserved = ps.cpl.reserved ∧
    (ps.closeLocal notify r).cpl.records.length = ps.cpl.records.length + if notify = true then 1 else 0 := by
  unfold PortState.closeLocal
  split
  · exact ⟨rfl, rfl, List.length_append⟩
  · exact ⟨rfl, rfl, rfl⟩

theorem State.lots_closeLocal (s : State) (hslot : (s.port p).slot = some f) (notify : Bool) (r : CplRecord) (q : Port) :
    (s.modPort p (·.closeLocal notify r)).lots q + lotsAt (some p) (lotsOf [f]) q = s.lots q := by
  refine add_right_cancel (b := lotsOf (s.port q).unsentFrames) ?_
  rw [add_right_comm, State.lots_unsent (s := s) (t := s.modPort p (·.closeLocal notify r)) rfl rfl rfl, lotsAt_some]
  by_cases hq : q = p
  · subst hq
    obtain ⟨hclosed, -⟩ := (s.port q).closeLocal_eq notify r
    unfold PortState.unsentFrames
    rw [if_pos rfl, State.port_modPort_same, hclosed, hslot, lotsOf_append, lotsOf_append, Option.toList_none, lotsOf_nil,
      zero_add, Option.toList_some, add_assoc, add_comm (lotsOf [f])]
  · rw [if_neg hq, State.port_modPort_ne s _ hq, add_zero]

theorem State.lot_mem_lots (s : State) (hslot : (s.port p).slot = some f) : f.lot ∈ s.lots p := by
  refine mem_lotsOf.mpr ⟨f, ?_, rfl⟩
  unfold State.paidFrames PortState.unsentFrames
  simp [hslot]

theorem State.Accounts.count_le_held (h : s.Accounts) {q : Port} {x : List Nat × Nat} (hx : x ∈ s.lots q) :
    x.2 ≤ (s.port q).holdings :=
  h.held q ▸ Multiset.le_sum_of_mem (Multiset.mem_map_of_mem _ hx)

/-- A delivered slot's frame leaves what its port holds for what its payer holds, or ends (R13). -/
theorem State.Books.closeLocal (h : s.Books) {targets : HostSet} (hslot : (s.port p).slot = some f) {notify : Bool}
    {g : Frame} (hlot : g.lot = f.lot) (r : CplRecord)
    (hplaces : notify = true → (s.port p).cpl.records.length + (s.port p).cpl.reserved < 16) :
    ((s.deliver g targets (.fromPort p) none (some p)).modPort p (·.closeLocal notify r)).Books := by
  have hlots := s.lots_deliver g targets (.fromPort p) none (some p)
  have hreferences := h.references.deliver (f := g) (targets := targets) (source := .fromPort p) (first := none)
    (sender := some p)
  obtain ⟨hleaves, hwindow, hframer⟩ := s.deliver_leaves g targets (.fromPort p) none (some p)
  obtain ⟨hholdings, -, -, hpool⟩ := s.deliver_accounts g targets (.fromPort p) none (some p)
  obtain ⟨hcells, hcount⟩ := Prod.ext_iff.mp hlot
  change g.cells = f.cells at hcells
  change g.cellCount = f.cellCount at hcount
  generalize s.deliver g targets (.fromPort p) none (some p) = t at *
  generalize s.choosePayer g.cellCount (s.roomSet targets) (some p) = payer at *
  have hslotT : (t.port p).slot = some f := (hleaves p).1.trans hslot
  have hclosed := t.lots_closeLocal hslotT notify r
  have hport (q : Port) := State.port_modPort t p q (·.closeLocal notify r)
  have heq : t.modPort p (·.closeLocal notify r) = { t with ports := (t.modPort p (·.closeLocal notify r)).ports } := rfl
  generalize t.modPort p (·.closeLocal notify r) = u at *
  obtain ⟨hclose, hreserved, hrecords⟩ := (t.port p).closeLocal_eq notify r
  have hgone : lotCount (lotsOf [f]) = g.cellCount := by rw [hcount]; simp [cellsOf]
  have hnew : lotsOf [g] = lotsOf [f] := by simp [lotsOf, hlot]
  have hmem : f.lot ∈ s.lots p := s.lot_mem_lots hslot
  have hpayable : g.cellCount ≤ (s.port p).holdings := hcount.trans_le (h.accounts.count_le_held hmem)
  have hsized : f.cells.length = g.cellCount := (h.accounts.sized p f.lot hmem).trans hcount.symm
  refine ⟨?_, hreferences.of_eq (by rw [heq]) fun q => ?_,
    h.completions.at_port p (fun q hq => ?_) (by rw [heq, hwindow]) ?_ ?_ ?_,
    h.onLine.of_eq (by rw [heq, hwindow]) (by rw [heq, hframer])⟩
  · refine h.accounts.transfer (lotsAt (some p) (lotsOf [f])) (lotsAt payer (lotsOf [f])) (fun q => ?_) (fun q => ?_) ?_ ?_ ?_
      (fun q x hx => ?_) ?_
    · rw [hclosed, hlots, hnew]
    · have hheld : (u.port q).holdings = (t.port q).holdings := by
        rw [hport]
        split
        · next hq =>
          subst hq
          rw [hclose]
        · rfl
      rw [hheld, hholdings, lotCount_lotsAt, lotCount_lotsAt, hgone]
      dsimp only [paidOver]
      by_cases hq : some p = some q
      · obtain rfl := Option.some.inj hq
        by_cases hpay : payer = some p
        · simp [hpay]
        · simp [hpay]
          omega
      · by_cases hpay : payer = some q <;> simp [hpay, hq]
    · rw [heq, hpool, hframer]
      exact h.accounts.stored
    · rw [heq, hpool]
      cases payer with
      | none => simp [h.accounts.free, hcells, hsized]
      | some y => simp [h.accounts.free]
    · rw [heq, hpool]
      exact h.accounts.inbound
    · unfold lotsAt at hx
      split at hx
      · obtain rfl : x = f.lot := by simpa [lotsOf] using hx
        exact hsized.trans hcount
      · exact absurd hx (Multiset.notMem_zero _)
    · rw [heq, hpool, overPorts_lotsAt, overPorts_lotsAt, if_neg (Option.some_ne_none p)]
      cases payer with
      | none =>
        have hcellList : cellList [f] = f.cells := List.flatMap_singleton ..
        simp only [if_true, reduceCtorEq, if_false, lotCells_zero, add_zero, lotCells_lotsOf, hcells, hcellList,
          ← Multiset.coe_add]
        ac_rfl
      | some y => simp
  · rw [hport]
    split
    · next hq =>
      subst hq
      rw [hclose]
    · rfl
  · rw [hport, if_neg hq]
    exact ⟨(hleaves q).2.1, (hleaves q).2.2⟩
  · rw [hport, if_pos rfl, hrecords, hreserved, (hleaves p).2.2]
    obtain ⟨hall, -⟩ := h.completions.at p
    split
    · next hn =>
      have := hplaces hn
      omega
    · exact hall
  · rw [hport, if_pos rfl, hreserved, hclose, (hleaves p).2.1, (hleaves p).2.2]
  · rw [hport, if_pos rfl, hclose]
    dsimp only
    rw [(hleaves p).2.1]
    obtain ⟨-, -, hall⟩ := h.completions.at p
    exact hall

/-- COMMIT LOCAL (R35, R36). -/
theorem State.Books.deliverLocal (h : s.Books) {targets : HostSet} {cls tag options : Byte} (hslot : (s.port p).slot = some f)
    (hplaces : notifyOption options = true → (s.port p).cpl.records.length + (s.port p).cpl.reserved < 16) :
    (s.deliverLocal p (f.submitted cls tag options) targets).Books := by
  rw [State.deliverLocal_submitted]
  exact h.closeLocal hslot (g := f.submitted cls tag options) rfl
    (localRecord tag (s.deliveredSet (cellsFor f.length) targets (some p)) targets) hplaces

end

end Sys2Proof.Machine
end

section
/-! SUPPORT. References that are dropped one by one (R14): the law on references while records of a port wait to drop
theirs, and what each drop does. -/

namespace Sys2Proof.Machine

section
variable {p : Port} {s t : State} {l : List Nat} {n : Nat} {f : Frame} {pre post : List (Nat × Frame)}

/-! ### References held -/

/-- The references of q to frame n: its records, and for p those of removed records whose references l are not yet
dropped. -/
def State.heldOf (s : State) (p : Port) (l : List Nat) (q : Port) (n : Nat) : Nat :=
  s.recordsOf q n + if q = p then l.count n else 0

/-- The law on references while p has yet to drop those of l (R14). -/
structure State.Dropping (s : State) (p : Port) (l : List Nat) : Prop where
  nodup : (s.frames.map (·.1)).Nodup
  counted : ∀ x ∈ s.frames, ∃ q, x.2.payer = some q ∧ s.heldOf p l q x.1 = 1 ∧
    x.2.refs = some ((Port.all.map fun q => s.heldOf p l q x.1).sum)
  once : ∀ q n, s.heldOf p l q n ≤ 1
  stored : ∀ q n, s.heldOf p l q n ≠ 0 → n ∈ s.frames.map (·.1)

theorem State.recordsOf_ne_zero {q : Port} : s.recordsOf q n ≠ 0 ↔ ∃ r ∈ (s.port q).rx.records, r.frame = n := by
  simp [State.recordsOf]

theorem State.heldOf_nil (s : State) (p q : Port) (n : Nat) : s.heldOf p [] q n = s.recordsOf q n := by
  simp [State.heldOf]

theorem State.heldOf_cons (s : State) (p : Port) (m : Nat) (l : List Nat) (q : Port) (n : Nat) :
    s.heldOf p (m :: l) q n = s.heldOf p l q n + if q = p ∧ m = n then 1 else 0 := by
  unfold State.heldOf
  rw [List.count_cons]
  by_cases hq : q = p <;> simp [hq, add_assoc]

/-- Where a port holds as many references in t as in s, and the frames are the same, the law passes over. -/
theorem State.Dropping.of_heldOf {l' : List Nat} (h : s.Dropping p l) (hframes : t.frames = s.frames)
    (hheld : ∀ q n, t.heldOf p l' q n = s.heldOf p l q n) : t.Dropping p l' := by
  obtain ⟨hnodup, hcounted, honce, hstored⟩ := h
  constructor
  all_goals simp only [hframes, hheld]
  all_goals assumption

theorem State.dropping_nil : s.Dropping p [] ↔ s.ReferenceLaw := by
  constructor
  · rintro ⟨hnodup, hcounted, honce, hstored⟩
    simp only [State.heldOf_nil] at hcounted honce hstored
    refine ⟨hnodup, hcounted, honce, fun q r hr => ?_⟩
    exact State.isSome_frame?.mpr (hstored q r.frame (State.recordsOf_ne_zero.mpr ⟨r, hr, rfl⟩))
  · rintro ⟨hnodup, hcounted, honce, hstored⟩
    refine ⟨hnodup, ?_, ?_, ?_⟩
    all_goals simp only [State.heldOf_nil]
    · exact hcounted
    · exact honce
    · intro q n hn
      obtain ⟨r, hr, rfl⟩ := State.recordsOf_ne_zero.mp hn
      exact State.isSome_frame?.mp (hstored q r hr)

/-- Removed records wait to drop their references. -/
theorem State.ReferenceLaw.dropping (h : s.ReferenceLaw) {gone left : List RxRecord}
    (hrecords : (s.port p).rx.records = gone ++ left) (hframes : t.frames = s.frames)
    (hleft : (t.port p).rx.records = left) (hother : ∀ q, q ≠ p → (t.port q).rx.records = (s.port q).rx.records) :
    t.Dropping p (gone.map (·.frame)) := by
  refine (State.dropping_nil (p := p)).mpr h |>.of_heldOf hframes fun q n => ?_
  rw [State.heldOf_nil]
  unfold State.heldOf State.recordsOf
  by_cases hq : q = p
  · subst hq
    rw [if_pos rfl, hleft, hrecords, List.filter_append, List.length_append, Nat.add_comm, List.count_eq_length_filter,
      List.filter_map, List.length_map]
    rfl
  · rw [if_neg hq, hother q hq, Nat.add_zero]

/-! ### The frame of the store whose reference drops -/

/-- The frame of a number stands at one place of the store. -/
theorem State.Dropping.split (h : s.Dropping p l) (hmem : n ∈ s.frames.map (·.1)) :
    ∃ pre f post, s.frames = pre ++ (n, f) :: post ∧ s.frame? n = some f ∧ (∀ x ∈ pre, x.1 ≠ n) ∧ ∀ x ∈ post, x.1 ≠ n := by
  obtain ⟨⟨m, f⟩, hx, rfl⟩ := List.mem_map.mp hmem
  obtain ⟨pre, post, hframes⟩ := List.append_of_mem hx
  have hnodup := h.nodup
  rw [hframes, List.map_append, List.map_cons] at hnodup
  have hpre : ∀ x ∈ pre, x.1 ≠ m := fun x hx he =>
    (List.nodup_append.mp hnodup).2.2 x.1 (List.mem_map_of_mem hx) m (by simp) he
  have hpost : ∀ x ∈ post, x.1 ≠ m := fun x hx he =>
    (List.nodup_cons.mp (List.nodup_append.mp hnodup).2.1).1 (he ▸ List.mem_map_of_mem (f := (·.1)) hx)
  refine ⟨pre, f, post, hframes, ?_, hpre, hpost⟩
  unfold State.frame?
  rw [hframes, List.find?_append, List.find?_eq_none.mpr fun x hx => by simpa using hpre x hx]
  simp

theorem map_replace_eq {g : Frame} (hpre : ∀ x ∈ pre, x.1 ≠ n) (hpost : ∀ x ∈ post, x.1 ≠ n) :
    ((pre ++ (n, f) :: post).map fun x => if x.1 = n then (n, g) else x) = pre ++ (n, g) :: post := by
  have kept {l : List (Nat × Frame)} (h : ∀ x ∈ l, x.1 ≠ n) : (l.map fun x => if x.1 = n then (n, g) else x) = l := by
    refine (List.map_congr_left fun x hx => if_neg (h x hx)).trans (List.map_id _)
  rw [List.map_append, List.map_cons, kept hpre, kept hpost, if_pos rfl]

theorem filter_ne_eq (hpre : ∀ x ∈ pre, x.1 ≠ n) (hpost : ∀ x ∈ post, x.1 ≠ n) :
    ((pre ++ (n, f) :: post).filter (·.1 ≠ n)) = pre ++ post := by
  have kept {l : List (Nat × Frame)} (h : ∀ x ∈ l, x.1 ≠ n) : l.filter (·.1 ≠ n) = l :=
    List.filter_eq_self.mpr fun x hx => by simpa using h x hx
  rw [List.filter_append, kept hpre, List.filter_cons, if_neg (by simp), kept hpost]

/-! ### One drop -/

/-- The ports other than p that hold frame n, by the references they hold. -/
theorem State.mem_otherHolders {q : Port} : q ∈ s.otherHolders p n ↔ q ≠ p ∧ s.recordsOf q n ≠ 0 := by
  have hall : q ∈ Port.all := by cases q <;> decide
  simp [State.otherHolders, hall, State.recordsOf_ne_zero]

theorem Port.sum_eq_self (p : Port) : (Port.all.map fun q => if q = p then 1 else 0).sum = 1 := by cases p <;> rfl

/-- What p leaves of frame f of the store by dropping its reference (R14). -/
def Frame.leftBy (f : Frame) (p : Port) (others : List Port) : Option Frame :=
  match others with
  | [] => none
  | heir :: rest => some { f with refs := some (rest.length + 1), payer := if f.payer = some p then some heir else f.payer }

/-- A port that drops the reference to a frame it no longer has a record of (R14). -/
theorem State.Dropping.head (h : s.Dropping p (n :: l)) :
    s.recordsOf p n = 0 ∧ l.count n = 0 ∧ ∀ q, q ≠ p → s.recordsOf q n ≤ 1 := by
  have hone := h.once p n
  rw [State.heldOf_cons, if_pos ⟨rfl, rfl⟩] at hone
  unfold State.heldOf at hone
  rw [if_pos rfl] at hone
  refine ⟨by omega, by omega, fun q hq => ?_⟩
  have hq' := h.once q n
  unfold State.heldOf at hq'
  rwa [if_neg hq, Nat.add_zero] at hq'

theorem State.Dropping.refs_eq (h : s.Dropping p (n :: l)) (hf : s.frames = pre ++ (n, f) :: post) :
    f.refs.getD 0 - 1 = (s.otherHolders p n).length := by
  obtain ⟨hnone, hcount, hone⟩ := h.head
  obtain ⟨-, -, -, hrefs⟩ := h.counted (n, f) (by rw [hf]; simp)
  have hheld (q : Port) : s.heldOf p (n :: l) q n =
      (if (q ≠ p && (s.port q).rx.records.any (·.frame == n)) = true then 1 else 0) + if q = p then 1 else 0 := by
    unfold State.heldOf
    rw [List.count_cons_self, hcount]
    by_cases hq : q = p
    · subst hq
      simp [hnone]
    · have hone := hone q hq
      have hiff := State.recordsOf_ne_zero (s := s) (q := q) (n := n)
      simp only [hq, ne_eq, not_false_eq_true, decide_true, Bool.true_and, List.any_eq_true, beq_iff_eq, ← hiff, if_false]
      split <;> omega
  rw [show f.refs = _ from hrefs, Option.getD_some]
  simp only [hheld, List.sum_map_add, Port.sum_eq_self]
  rw [← length_filter_eq_sum, Nat.add_sub_cancel]
  rfl

theorem State.Dropping.lowestHolder_eq (h : s.Dropping p (n :: l)) : s.lowestHolder n = (s.otherHolders p n).head? := by
  obtain ⟨hnone, -, -⟩ := h.head
  have hp : (s.port p).rx.records.any (·.frame == n) = false := by
    by_contra hany
    exact State.recordsOf_ne_zero.mpr (by simpa using hany) hnone
  unfold State.lowestHolder State.otherHolders
  rw [List.head?_filter]
  congr 1
  funext q
  by_cases hq : q = p
  · rw [hq, hp, Bool.and_false]
  · simp [hq]

/-- The last reference ends the frame; else the lowest-numbered other holder pays where p paid (R14). -/
theorem State.Dropping.dropReference_eq (h : s.Dropping p (n :: l)) (hf : s.frames = pre ++ (n, f) :: post)
    (hfind : s.frame? n = some f) (hpre : ∀ x ∈ pre, x.1 ≠ n) (hpost : ∀ x ∈ post, x.1 ≠ n) :
    (s.otherHolders p n = [] ∧ f.payer = some p ∧
        s.dropReference p n = { s.returnFrames p [f] with frames := pre ++ post }) ∨
      ∃ heir rest g, s.otherHolders p n = heir :: rest ∧ f.leftBy p (heir :: rest) = some g ∧
        ((f.payer = some p ∧
            s.dropReference p n = { s.movePayment p heir f.cellCount with frames := pre ++ (n, g) :: post }) ∨
          f.payer ≠ some p ∧ s.dropReference p n = { s with frames := pre ++ (n, g) :: post }) := by
  have hrefs := h.refs_eq hf
  have hlowest := h.lowestHolder_eq
  obtain ⟨y, hpayer, hone, -⟩ := h.counted (n, f) (by rw [hf]; simp)
  have hdropped : s.frames.filter (·.1 ≠ n) = pre ++ post := by rw [hf, filter_ne_eq hpre hpost]
  have hput (g : Frame) : (s.frames.map fun x => if x.1 = n then (n, g) else x) = pre ++ (n, g) :: post := by
    rw [hf, map_replace_eq hpre hpost]
  unfold State.dropReference
  rw [hfind]
  dsimp only
  rw [hrefs, hlowest]
  cases hothers : s.otherHolders p n with
  | nil =>
    have hy : y = p := by
      by_contra hy
      have hmem := State.mem_otherHolders (s := s) (p := p) (n := n) (q := y)
      unfold State.heldOf at hone
      rw [if_neg hy, Nat.add_zero] at hone
      rw [hothers] at hmem
      exact List.not_mem_nil (hmem.mpr ⟨hy, by rw [hone]; exact Nat.one_ne_zero⟩)
    subst hy
    refine .inl ⟨rfl, hpayer, ?_⟩
    rw [List.length_nil, if_pos rfl, hpayer, ← hdropped]
    rfl
  | cons heir rest =>
    refine .inr ⟨heir, rest, _, rfl, rfl, ?_⟩
    rw [List.length_cons, if_neg (Nat.succ_ne_zero _)]
    by_cases hpaid : f.payer = some p
    · refine .inl ⟨hpaid, ?_⟩
      rw [if_pos hpaid, List.head?_cons, if_pos hpaid, ← hput]
      rfl
    · refine .inr ⟨hpaid, ?_⟩
      rw [if_neg hpaid, if_neg hpaid, ← hput]
      rfl

/-! ### The law on references after a drop -/

theorem State.recordsOf_congr {q : Port} (h : (t.port q).rx.records = (s.port q).rx.records) (n : Nat) :
    t.recordsOf q n = s.recordsOf q n := by
  unfold State.recordsOf
  rw [h]

/-- The frame ended with its last reference. -/
theorem State.Dropping.ended (h : s.Dropping p (n :: l)) (hf : s.frames = pre ++ (n, f) :: post)
    (hpre : ∀ x ∈ pre, x.1 ≠ n) (hpost : ∀ x ∈ post, x.1 ≠ n) (hothers : s.otherHolders p n = [])
    (hrecords : ∀ q, (t.port q).rx.records = (s.port q).rx.records) (hframes : t.frames = pre ++ post) :
    t.Dropping p l := by
  obtain ⟨hnone, hcount, -⟩ := h.head
  obtain ⟨hnodup, hcounted, honce, hstored⟩ := h
  have hheld (q : Port) (m : Nat) : s.heldOf p (n :: l) q m = t.heldOf p l q m + if q = p ∧ n = m then 1 else 0 := by
    rw [State.heldOf_cons]
    unfold State.heldOf
    rw [State.recordsOf_congr (hrecords q)]
  have hsame (q : Port) {m : Nat} (hm : m ≠ n) : s.heldOf p (n :: l) q m = t.heldOf p l q m := by
    rw [hheld, if_neg fun hqm => hm hqm.2.symm, Nat.add_zero]
  have hgone (q : Port) : t.heldOf p l q n = 0 := by
    unfold State.heldOf
    rw [State.recordsOf_congr (hrecords q)]
    by_cases hq : q = p
    · rw [hq, if_pos rfl, hnone, hcount]
    · rw [if_neg hq, Nat.add_zero]
      by_contra hrec
      have hmem := State.mem_otherHolders.mpr ⟨hq, hrec⟩
      rw [hothers] at hmem
      exact List.not_mem_nil hmem
  have hne {x : Nat × Frame} (hx : x ∈ pre ++ post) : x.1 ≠ n := (List.mem_append.mp hx).elim (hpre x) (hpost x)
  have hsub : (pre ++ post).Sublist s.frames := by
    rw [hf]
    exact List.Sublist.append_left (List.sublist_cons_self _ _) _
  refine ⟨?_, fun x hx => ?_, fun q m => ?_, fun q m hm => ?_⟩
  · rw [hframes]
    exact hnodup.sublist (hsub.map _)
  · rw [hframes] at hx
    have hxs := hcounted x (hsub.subset hx)
    simpa only [hsame _ (hne hx)] using hxs
  · have hle := honce q m
    rw [hheld] at hle
    exact le_trans (Nat.le_add_right _ _) hle
  · have hmn : m ≠ n := fun he => hm (he ▸ hgone q)
    have hmem := hstored q m (by rwa [hsame q hmn])
    rw [hf] at hmem
    rw [hframes]
    simp only [List.map_append, List.map_cons, List.mem_append, List.mem_cons, hmn, false_or] at hmem ⊢
    exact hmem

/-- The frame that others still hold. -/
theorem State.Dropping.left (h : s.Dropping p (n :: l)) (hf : s.frames = pre ++ (n, f) :: post)
    (hpre : ∀ x ∈ pre, x.1 ≠ n) (hpost : ∀ x ∈ post, x.1 ≠ n) {heir : Port} {rest : List Port} {g : Frame}
    (hothers : s.otherHolders p n = heir :: rest) (hg : f.leftBy p (heir :: rest) = some g)
    (hrecords : ∀ q, (t.port q).rx.records = (s.port q).rx.records) (hframes : t.frames = pre ++ (n, g) :: post) :
    t.Dropping p l := by
  have hrefs := h.refs_eq hf
  obtain ⟨hnone, hcount, hone⟩ := h.head
  obtain ⟨hnodup, hcounted, honce, hstored⟩ := h
  have hheld (q : Port) (m : Nat) : s.heldOf p (n :: l) q m = t.heldOf p l q m + if q = p ∧ n = m then 1 else 0 := by
    rw [State.heldOf_cons]
    unfold State.heldOf
    rw [State.recordsOf_congr (hrecords q)]
  have hsame (q : Port) {m : Nat} (hm : m ≠ n) : s.heldOf p (n :: l) q m = t.heldOf p l q m := by
    rw [hheld, if_neg fun hqm => hm hqm.2.symm, Nat.add_zero]
  have hkeys : t.frames.map (·.1) = s.frames.map (·.1) := by rw [hframes, hf]; simp
  refine ⟨by rwa [hkeys], fun x hx => ?_, fun q m => ?_, fun q m hm => ?_⟩
  · rw [hframes] at hx
    obtain hx | rfl | hx : x ∈ pre ∨ x = (n, g) ∨ x ∈ post := by simpa using hx
    · have hxs := hcounted x (by rw [hf]; simp [hx])
      simpa only [hsame _ (hpre x hx)] using hxs
    · obtain ⟨y, hpayer, hpaid, hsum⟩ := hcounted (n, f) (by rw [hf]; simp)
      obtain rfl : g = _ := (Option.some.inj hg).symm
      have hleft : (Port.all.map fun q => t.heldOf p l q n).sum = rest.length + 1 := by
        rw [hothers, hsum, Option.getD_some, List.length_cons] at hrefs
        simp only [hheld, List.sum_map_add, and_true, Port.sum_eq_self] at hrefs
        omega
      obtain ⟨hheirNe, hheirHolds⟩ := State.mem_otherHolders.mp (hothers ▸ List.mem_cons_self : heir ∈ s.otherHolders p n)
      have hother {q : Port} (hq : q ≠ p) : t.heldOf p l q n = s.recordsOf q n := by
        unfold State.heldOf
        rw [if_neg hq, Nat.add_zero, State.recordsOf_congr (hrecords q)]
      by_cases hp : f.payer = some p
      · refine ⟨heir, if_pos hp, ?_, by rw [hleft]⟩
        have := hone heir hheirNe
        rw [hother hheirNe]
        omega
      · have hy : y ≠ p := fun hy => hp (hpayer.trans (congrArg some hy))
        refine ⟨y, (if_neg hp).trans hpayer, ?_, by rw [hleft]⟩
        rw [hheld, if_neg fun hqm => hy hqm.1] at hpaid
        exact hpaid
    · have hxs := hcounted x (by rw [hf]; simp [hx])
      simpa only [hsame _ (hpost x hx)] using hxs
  · have hle := honce q m
    rw [hheld] at hle
    exact le_trans (Nat.le_add_right _ _) hle
  · rw [hkeys]
    refine hstored q m ?_
    rw [hheld]
    omega

end

end Sys2Proof.Machine
end

section
/-! SUPPORT. References that are dropped one by one (R14): the accounts, and the frame store after all of them. -/

namespace Sys2Proof.Machine

section
variable {p : Port} {s t u : State} {l : List Nat} {n : Nat} {f : Frame} {pre post new : List (Nat × Frame)}

/-! ### What a drop leaves -/

/-- From s to t holdings, free cells and the frame store change, and nothing else. -/
structure PaymentMoved (s t : State) : Prop where
  port : ∀ q, t.port q = { s.port q with holdings := (t.port q).holdings }
  pool : t.pool = { s.pool with free := t.pool.free, freeCells := t.pool.freeCells }
  eq : t = { s with pool := t.pool, ports := t.ports, frames := t.frames }

theorem PaymentMoved.refl (s : State) : PaymentMoved s s := ⟨fun _ => rfl, rfl, rfl⟩

theorem PaymentMoved.trans (h : PaymentMoved s t) (h' : PaymentMoved t u) : PaymentMoved s u where
  port q := by rw [h'.port q, h.port q]
  pool := by rw [h'.pool, h.pool]
  eq := by rw [h'.eq, h.eq]

theorem PaymentMoved.records (h : PaymentMoved s t) (q : Port) : (t.port q).rx.records = (s.port q).rx.records := by
  rw [h.port q]

theorem State.port_movePayment (s : State) (p q : Port) (k : Nat) (x : Port) :
    (s.movePayment p q k).port x =
      { s.port x with
        holdings := (s.port x).holdings - (if x = p then k else 0) + if x = q then k else 0 } := by
  unfold State.movePayment
  rw [State.port_modPort, State.port_modPort]
  split_ifs <;> rfl

theorem State.returnFrames_moved (s : State) (p : Port) (l : List Frame) : PaymentMoved s (s.returnFrames p l) where
  port q := by
    rw [State.port_returnFrames]
    split <;> rfl
  pool := rfl
  eq := rfl

theorem State.movePayment_moved (s : State) (p q : Port) (k : Nat) : PaymentMoved s (s.movePayment p q k) :=
  ⟨fun x => by rw [State.port_movePayment], rfl, rfl⟩

theorem State.dropReference_moved (s : State) (p : Port) (n : Nat) : PaymentMoved s (s.dropReference p n) := by
  obtain ⟨-, e⟩ | ⟨f, -, ⟨-, e⟩ | ⟨q, -, -, e⟩ | e⟩ := s.dropReference_cases p n <;> rw [e]
  · exact .refl s
  · exact ⟨(s.returnFrames_moved _ [f]).port, rfl, rfl⟩
  · exact ⟨(s.movePayment_moved p q f.cellCount).port, rfl, rfl⟩
  · exact ⟨fun _ => rfl, rfl, rfl⟩

/-! ### What the frames of the store hold -/

/-- The frames of l that q pays for. -/
def storedFor (l : List (Nat × Frame)) (q : Port) : List Frame := (l.filter (·.2.payer == some q)).map (·.2)

theorem storedFor_append (l l' : List (Nat × Frame)) (q : Port) :
    storedFor (l ++ l') q = storedFor l q ++ storedFor l' q := by
  simp [storedFor]

theorem lotsOf_storedFor_singleton (x : Nat × Frame) (q : Port) :
    lotsOf (storedFor [x] q) = lotsAt x.2.payer (lotsOf [x.2]) q := by
  unfold storedFor lotsAt
  by_cases h : x.2.payer = some q <;> simp [h]

/-- Where slots, queues, window and line stay a port pays for other frames by those of the store. -/
theorem State.lots_stored (hport : ∀ q, (t.port q).unsentFrames = (s.port q).unsentFrames)
    (hwindow : t.engine.window = s.engine.window) (htx : t.framer.tx = s.framer.tx) (q : Port) :
    t.lots q + lotsOf (storedFor s.frames q) = s.lots q + lotsOf (storedFor t.frames q) := by
  have hlots (u : State) : u.lots q =
      lotsOf (u.port q).unsentFrames + lotsOf (entryFrames u.engine.window q) + lotsOf (u.lineFrames q) +
        lotsOf (storedFor u.frames q) := by
    simp [State.lots, State.paidFrames, storedFor, add_assoc]
  rw [hlots t, hlots s, hport, hwindow, State.lineFrames_congr htx]
  ac_rfl

theorem PaymentMoved.lots (h : PaymentMoved s t) (q : Port) :
    t.lots q + lotsOf (storedFor s.frames q) = s.lots q + lotsOf (storedFor t.frames q) := by
  refine State.lots_stored (fun q => ?_) ?_ ?_ q
  · rw [h.port q]
    rfl
  · rw [h.eq]
  · rw [h.eq]

/-- A frame of the store ends, or another stands in its place. -/
theorem PaymentMoved.lots_replace (h : PaymentMoved s t) (hf : s.frames = pre ++ (n, f) :: post)
    (hframes : t.frames = pre ++ new ++ post) (q : Port) :
    t.lots q + lotsAt f.payer (lotsOf [f]) q = s.lots q + lotsOf (storedFor new q) := by
  have hlots := h.lots q
  rw [hf, hframes, ← List.singleton_append, ← List.append_assoc] at hlots
  simp only [storedFor_append, lotsOf_append, lotsOf_storedFor_singleton] at hlots
  refine add_right_cancel (b := lotsOf (storedFor pre q) + lotsOf (storedFor post q)) ?_
  calc _ = t.lots q + (lotsOf (storedFor pre q) + lotsAt f.payer (lotsOf [f]) q + lotsOf (storedFor post q)) := by ac_rfl
    _ = _ := by
      rw [hlots]
      ac_rfl

theorem State.Dropping.lot_mem (h : s.Dropping p l) (hf : s.frames = pre ++ (n, f) :: post) :
    ∃ y, f.payer = some y ∧ f.lot ∈ s.lots y := by
  obtain ⟨y, hpayer, -, -⟩ := h.counted (n, f) (by rw [hf]; simp)
  refine ⟨y, hpayer, mem_lotsOf.mpr ⟨f, ?_, rfl⟩⟩
  unfold State.paidFrames
  rw [hf]
  simp [show f.payer = some y from hpayer]

/-! ### One drop -/

theorem State.Dropping.drop (h : s.Dropping p (n :: l)) (ha : s.Accounts) :
    (s.dropReference p n).Dropping p l ∧ (s.dropReference p n).Accounts := by
  obtain ⟨pre, f, post, hf, hfind, hpre, hpost⟩ := h.split (h.stored p n (by
    rw [State.heldOf_cons, if_pos ⟨rfl, rfl⟩]
    exact Nat.succ_ne_zero _))
  have hmoved := s.dropReference_moved p n
  obtain ⟨y, hpayer, hmem⟩ := h.lot_mem hf
  obtain ⟨hothers, hpaid, e⟩ | ⟨heir, rest, g, hothers, hg, hcase⟩ := h.dropReference_eq hf hfind hpre hpost
  · refine ⟨h.ended hf hpre hpost hothers hmoved.records (by rw [e]), ?_⟩
    refine ha.returned (p := p) (l := [f]) (fun q => ?_) (fun q => ?_) (by rw [e]; rfl) (by rw [e]; rfl)
    · rw [← hpaid, hmoved.lots_replace (new := []) hf (by rw [e, List.append_nil])]
      exact add_zero _
    · rw [e]
      show ((s.returnFrames p [f]).port q).holdings = _
      rw [State.port_returnFrames]
      split <;> rfl
  · have hlot : lotsOf [g] = lotsOf [f] := by
      obtain rfl : g = _ := (Option.some.inj hg).symm
      rfl
    have hheir : heir ≠ p := (State.mem_otherHolders.mp (hothers ▸ List.mem_cons_self)).1
    have hnew (hframes : (s.dropReference p n).frames = pre ++ (n, g) :: post) (q : Port) :
        (s.dropReference p n).lots q + lotsAt f.payer (lotsOf [f]) q = s.lots q + lotsAt g.payer (lotsOf [f]) q := by
      rw [hmoved.lots_replace (new := [(n, g)]) hf (by rw [hframes]; simp), lotsOf_storedFor_singleton]
      dsimp only
      rw [hlot]
    obtain ⟨hpaid, e⟩ | ⟨hpaid, e⟩ := hcase
    · refine ⟨h.left hf hpre hpost hothers hg hmoved.records (by rw [e]), ?_⟩
      have hgp : g.payer = some heir := by
        obtain rfl : g = _ := (Option.some.inj hg).symm
        exact if_pos hpaid
      obtain rfl : y = p := Option.some.inj (hpayer.symm.trans hpaid)
      have hcount : lotCount (lotsOf [f]) = f.cellCount := by simp [cellsOf]
      have hle : f.cellCount ≤ (s.port y).holdings := ha.count_le_held hmem
      have hlots := hnew (by rw [e])
      rw [hpaid, hgp] at hlots
      refine ha.transfer _ _ hlots (fun q => ?_) ?_ ?_ ?_ (fun q x hx => ?_) ?_
      · rw [e]
        show ((s.movePayment y heir f.cellCount).port q).holdings + _ = _
        rw [State.port_movePayment, lotsAt_some, lotsAt_some, apply_ite lotCount, apply_ite lotCount, hcount, lotCount_zero]
        dsimp only
        by_cases hq : q = y
        · subst hq
          rw [if_pos rfl, if_neg hheir.symm]
          omega
        · rw [if_neg hq, Nat.sub_zero, Nat.add_zero]
      · rw [e]
        exact ha.stored
      · rw [e]
        exact ha.free
      · rw [e]
        exact ha.inbound
      · rw [lotsAt_some] at hx
        split at hx
        · obtain rfl : x = f.lot := by simpa [lotsOf] using hx
          exact ha.sized y f.lot hmem
        · exact absurd hx (Multiset.notMem_zero _)
      · rw [e, overPorts_lotsAt, overPorts_lotsAt, if_neg (Option.some_ne_none _), if_neg (Option.some_ne_none _)]
        rfl
    · refine ⟨h.left hf hpre hpost hothers hg hmoved.records (by rw [e]), ?_⟩
      have hgp : g.payer = f.payer := by
        obtain rfl : g = _ := (Option.some.inj hg).symm
        exact if_neg hpaid
      have hlots := hnew (by rw [e])
      rw [hgp] at hlots
      exact ha.same_lots (fun q => add_right_cancel (hlots q)) (fun q => by rw [e]; rfl) (by rw [e]) (by rw [e])

/-! ### All of them -/

/-- The frames of the store behind the drops of l (R14). -/
def State.forget (s : State) (p : Port) (l : List Nat) (x : Nat × Frame) : Option (Nat × Frame) :=
  if x.1 ∈ l then (x.2.leftBy p (s.otherHolders p x.1)).map fun f => (x.1, f) else some x

theorem State.Dropping.frames_drop (h : s.Dropping p (n :: l)) :
    (s.dropReference p n).frames = s.frames.filterMap (s.forget p [n]) := by
  obtain ⟨pre, f, post, hf, hfind, hpre, hpost⟩ := h.split (h.stored p n (by
    rw [State.heldOf_cons, if_pos ⟨rfl, rfl⟩]
    exact Nat.succ_ne_zero _))
  have kept {m : List (Nat × Frame)} (hm : ∀ x ∈ m, x.1 ≠ n) : m.filterMap (s.forget p [n]) = m := by
    refine (List.filterMap_congr fun x hx => ?_).trans (List.filterMap_some)
    exact if_neg fun he => hm x hx (List.mem_singleton.mp he)
  have hedit : s.forget p [n] (n, f) = (f.leftBy p (s.otherHolders p n)).map fun g => (n, g) :=
    if_pos (List.mem_singleton.mpr rfl)
  rw [hf, List.filterMap_append, List.filterMap_cons, kept hpre, kept hpost, hedit]
  obtain ⟨hothers, -, e⟩ | ⟨heir, rest, g, hothers, hg, ⟨-, e⟩ | ⟨-, e⟩⟩ := h.dropReference_eq hf hfind hpre hpost
  · rw [hothers, e]
    rfl
  · rw [hothers, hg, e]
    rfl
  · rw [hothers, hg, e]
    rfl

theorem State.forget_cons (hmem : n ∉ l) (hother : t.otherHolders p = s.otherHolders p) :
    s.forget p (n :: l) = fun x => (s.forget p [n] x).bind (t.forget p l) := by
  funext x
  unfold State.forget
  rw [hother]
  by_cases hn : x.1 = n
  · have hrest (g : Frame) : (fun f => (x.1, f)) g = (x.1, g) := rfl
    rw [if_pos (List.mem_cons.mpr (.inl hn)), if_pos (List.mem_singleton.mpr hn)]
    cases x.2.leftBy p (s.otherHolders p x.1) with
    | none => rfl
    | some g => simp [hn, hmem]
  · simp [hn]

theorem State.Dropping.drops (h : s.Dropping p l) (ha : s.Accounts) :
    let t := l.foldl (·.dropReference p ·) s
    PaymentMoved s t ∧ t.ReferenceLaw ∧ t.Accounts ∧ t.frames = s.frames.filterMap (s.forget p l) := by
  induction l generalizing s with
  | nil =>
    refine ⟨.refl s, State.dropping_nil.mp h, ha, ?_⟩
    exact ((List.filterMap_congr fun x _ => if_neg List.not_mem_nil).trans List.filterMap_some).symm
  | cons n l ih =>
    obtain ⟨hdropping, haccounts⟩ := h.drop ha
    have hmoved := s.dropReference_moved p n
    have hfirst := h.frames_drop
    obtain ⟨hrest, hreferences, hall, hframes⟩ := ih hdropping haccounts
    have hnotMem : n ∉ l := by
      obtain ⟨-, hcount, -⟩ := h.head
      exact List.count_eq_zero.mp hcount
    have hother : (s.dropReference p n).otherHolders p = s.otherHolders p := by
      funext m
      unfold State.otherHolders
      simp only [hmoved.records]
    refine ⟨hmoved.trans hrest, hreferences, hall, ?_⟩
    rw [List.foldl_cons, hframes, hfirst, State.forget_cons hnotMem hother, List.filterMap_filterMap]

end

end Sys2Proof.Machine
end

section
/-! SUPPORT. Records removed, the reset of a port, and every step: the accounts of the part are kept. -/

namespace Sys2Proof.Machine

section
variable {p : Port} {s t u : State}

/-! ### A record released -/

theorem PaymentMoved.books (h : PaymentMoved s t) (haccounts : t.Accounts) (hreferences : t.ReferenceLaw)
    (hcompletions : s.CompletionLaw) (honLine : s.OnLineLaw) : t.Books :=
  ⟨haccounts, hreferences, hcompletions.of_eq (fun q => by rw [h.port q]) (fun q => by rw [h.port q]) (by rw [h.eq]),
    honLine.of_eq (by rw [h.eq]) (by rw [h.eq])⟩

theorem State.Books.releaseRecord (h : s.Books) {r : RxRecord} {rest : List RxRecord}
    (hrecords : (s.port p).rx.records = r :: rest) :
    ((((s.keepRecords p rest).dropReference p r.frame).settlePool).modPort p (·.examineLow)).Books := by
  have hport (q : Port) : (s.keepRecords p rest).port q = { s.port q with rx := ((s.keepRecords p rest).port q).rx } := by
    unfold State.keepRecords
    rw [State.port_modPort]
    split <;> rfl
  have haccounts : (s.keepRecords p rest).Accounts := by
    refine h.accounts.same_lots (fun q => ?_) (fun q => by rw [hport]) rfl rfl
    rw [State.lots_eq, State.lots_eq, hport]
    rfl
  have hdropping : (s.keepRecords p rest).Dropping p [r.frame] := by
    refine h.references.dropping (gone := [r]) hrecords rfl ?_ fun q hq => ?_
    · rw [State.keepRecords_records, if_pos rfl]
    · rw [State.keepRecords_records, if_neg hq]
  obtain ⟨hreferences, hafter⟩ := hdropping.drop haccounts
  have hcompletions : (s.keepRecords p rest).CompletionLaw :=
    h.completions.of_eq (fun q => by rw [hport]) (fun q => by rw [hport]) rfl
  have honLine : (s.keepRecords p rest).OnLineLaw := h.onLine.of_eq rfl rfl
  have hdropped := (State.dropReference_moved _ p r.frame).books hafter (State.dropping_nil.mp hreferences) hcompletions
    honLine
  exact (hdropped.same (State.settlePool_same _)).same (sameBooks_modPort (PortState.examineLow_same _))

/-! ### The reset of a port -/

/-- The frames of p that are not sent have ended, its window entries are orphans and its lists are empty; the references
of its records are still to drop (R42, R116, R148). -/
def State.clearedPort (s : State) (p : Port) : State :=
  ((s.resetFrames p).orphan p).modPort p fun ps => { ps with rx := PortState.reset.rx, cpl := PortState.reset.cpl }

theorem State.port_clearedPort (s : State) (p q : Port) :
    (s.clearedPort p).port q =
      if q = p then
        { s.port q with
          holdings := (s.port q).holdings - cellsOf (s.port q).unsentFrames, slot := none, queue := [], deferred := false
          rx := PortState.reset.rx, cpl := PortState.reset.cpl }
      else s.port q := by
  cases p <;> cases q <;> rfl

theorem State.resetFrames_records (s : State) (p q : Port) :
    (((s.resetFrames p).orphan p).port q).rx.records = (s.port q).rx.records := by
  cases p <;> cases q <;> rfl

theorem State.resetLists_eq (s : State) (p : Port) :
    ((s.resetFrames p).orphan p).resetLists p =
      ((s.port p).rx.records.map (·.frame)).foldl (·.dropReference p ·) (s.clearedPort p) := by
  unfold State.resetLists
  rw [List.foldl_map, State.resetFrames_records]
  rfl

theorem State.entryFrames_clearedPort (s : State) (p q : Port) :
    entryFrames (s.clearedPort p).engine.window q = entryFrames s.engine.window q := by
  refine entryFrames_map (f := fun e => if e.owner = p then { e with orphan := true } else e) (fun e => ?_) (fun e => ?_) _ q
  · split <;> rfl
  · split <;> rfl

/-- No frame of p is owed a record any more (R29, R42). -/
theorem State.reportedFrames_clearedPort (s : State) (p q : Port) :
    reportedFrames (s.clearedPort p).engine.window q = if q = p then [] else reportedFrames s.engine.window q := by
  have hedit (e : WindowEntry) : e.owner ≠ p → (if e.owner = p then { e with orphan := true } else e) = e := fun he =>
    if_neg he
  show reportedFrames (s.engine.window.map fun e => if e.owner = p then { e with orphan := true } else e) q = _
  unfold reportedFrames
  rw [List.filter_map, List.map_map]
  split
  · next hq =>
    rw [List.map_eq_nil_iff, List.filter_eq_nil_iff]
    intro e _
    dsimp only [Function.comp]
    split
    · simp
    · next he => simp [hq, he]
  · next hq =>
    have hkept (e : WindowEntry) :
        ((fun e : WindowEntry => e.owner == q && !e.orphan) ∘
            fun e => if e.owner = p then { e with orphan := true } else e) e =
          (e.owner == q && !e.orphan) := by
      dsimp only [Function.comp]
      split
      · next he => simp [he, Ne.symm hq]
      · rfl
    rw [List.filter_congr fun e _ => hkept e]
    refine List.map_congr_left fun e _ => ?_
    dsimp only [Function.comp]
    split <;> rfl

theorem State.OnLineLaw.of_map (h : s.OnLineLaw) {f : WindowEntry → WindowEntry} (hf : ∀ e, (f e).onLine = e.onLine)
    (hwindow : t.engine.window = s.engine.window.map f) (htx : t.framer.tx = s.framer.tx) : t.OnLineLaw := by
  have hfilter : ((s.engine.window.map f).filter (·.onLine)).length = (s.engine.window.filter (·.onLine)).length := by
    rw [List.filter_map, List.length_map]
    exact congrArg List.length (List.filter_congr fun e _ => hf e)
  have hany : (s.engine.window.map f).any (·.onLine) = s.engine.window.any (·.onLine) := by
    rw [List.any_map]
    exact congrArg s.engine.window.any (funext hf)
  unfold State.OnLineLaw
  rw [hwindow, htx, hfilter, hany]
  exact h

theorem State.Accounts.clearedPort (h : s.Accounts) : (s.clearedPort p).Accounts := by
  have hended := h.unsentEnded (p := p) (l := (s.port p).unsentFrames)
    (edit := fun ps => { ps with slot := none, queue := [], deferred := false }) rfl (zero_add _)
  have heq : s.resetFrames p =
      (s.modPort p fun ps => { ps with slot := none, queue := [], deferred := false }).returnFrames p
        (s.port p).unsentFrames := by
    cases p <;> rfl
  rw [← heq] at hended
  refine hended.same_lots (fun q => ?_) (fun q => ?_) rfl rfl
  · have hslot : ((s.clearedPort p).port q).slot = ((s.resetFrames p).port q).slot := by cases p <;> cases q <;> rfl
    have hqueue : ((s.clearedPort p).port q).queue = ((s.resetFrames p).port q).queue := by cases p <;> cases q <;> rfl
    rw [State.lots_eq, State.lots_eq, hslot, hqueue, State.entryFrames_clearedPort]
    rfl
  · cases p <;> cases q <;> rfl

theorem State.CompletionLaw.clearedPort (h : s.CompletionLaw) : (s.clearedPort p).CompletionLaw := by
  intro q
  obtain ⟨hplaces, hreserved, hcount⟩ := h q
  rw [State.slotsOwed_eq] at hreserved
  rw [State.transmitCount_eq] at hcount
  rw [State.slotsOwed_eq, State.transmitCount_eq, State.entryFrames_clearedPort, State.reportedFrames_clearedPort,
    State.port_clearedPort]
  split
  · exact ⟨Nat.zero_le _, rfl, le_trans (Nat.add_le_add_right (Nat.zero_le _) _) hcount⟩
  · exact ⟨hplaces, hreserved, hcount⟩

theorem State.ReferenceLaw.clearedPort (h : s.ReferenceLaw) :
    (s.clearedPort p).Dropping p ((s.port p).rx.records.map (·.frame)) := by
  refine h.dropping (left := []) (List.append_nil _).symm rfl ?_ fun q hq => ?_
  · rw [State.port_clearedPort, if_pos rfl]
    rfl
  · rw [State.port_clearedPort, if_neg hq]

theorem State.Books.resetLists (h : s.Books) : (((s.resetFrames p).orphan p).resetLists p).Books := by
  obtain ⟨hmoved, hreferences, haccounts, -⟩ := h.references.clearedPort.drops (p := p) h.accounts.clearedPort
  have honLine : (s.clearedPort p).OnLineLaw := by
    refine h.onLine.of_map (f := fun e => if e.owner = p then { e with orphan := true } else e) (fun e => ?_) rfl rfl
    split <;> rfl
  rw [State.resetLists_eq]
  exact hmoved.books haccounts hreferences h.completions.clearedPort honLine

theorem State.resetLease_same (s : State) (p : Port) : SameBooks s (s.resetLease p) := by
  unfold State.resetLease
  split
  · exact s.endHolding_same false
  · exact .of_ports rfl rfl rfl rfl rfl rfl

theorem State.Books.portReset (h : s.Books) : (s.portReset p).state.Books := by
  have hjudged := ((h.resetLists (p := p)).same (State.resetLease_same _ p)).same (State.settlePool_same _)
  exact hjudged.same (sameBooks_modPort (p := p) (f := fun ps => { ps with events := EventUnit.cleared, prevResult := .ok })
    ⟨rfl, rfl, rfl, rfl, rfl⟩)

/-! ### Every command -/

theorem CommandEffect.books {managed : Bool} (h : CommandEffect p s managed t) (hs : s.Books) : t.Books := by
  have edited {f : PortState → PortState} {q : Port} (h : (s.port q).SameBooks (f (s.port q))) : (s.modPort q f).Books :=
    hs.same (sameBooks_modPort h)
  cases h
  case answered => exact hs
  case ackEvents => exact edited ⟨rfl, rfl, rfl, rfl, rfl⟩
  case setEventMask => exact edited ⟨rfl, rfl, rfl, rfl, rfl⟩
  case setMarks => exact edited ⟨rfl, rfl, rfl, rfl, rfl⟩
  case portReset => exact hs.portReset
  case openFrame hslot _ _ hfree => exact hs.openFrame hslot hfree
  case commitTrunk f _ _ _ _ hslot hcount hplaces => exact hs.commitTrunk hslot hcount hplaces
  case commitLocal f _ _ _ _ hslot hplaces => exact hs.deliverLocal hslot hplaces
  case discardFrame f hslot => exact hs.discardFrame hslot
  case cancel tag f hf => exact hs.cancel hf
  case releaseRecord r rest hrecords => exact hs.releaseRecord hrecords
  case takeCompletion r rest hrecords => exact hs.takeCompletion hrecords
  case releaseLease => exact hs.same (s.endHolding_same false)
  case setQuota q floor ceiling _ _ _ =>
    exact (edited (f := fun ps => { ps with floor := floor, ceiling := ceiling }) ⟨rfl, rfl, rfl, rfl, rfl⟩).same
      (State.settlePool_same _)
  case setParameter n v _ _ _ _ _ =>
    have written : State.Books { s with params := s.params.write n v } := hs.same (.of_ports rfl rfl rfl rfl rfl rfl)
    exact written.same (State.afterParameter_same _ n)
  case tableCommit => exact hs.same s.tableCommit_same
  case trunkOn => exact hs.trunkOn
  case trunkOff => exact hs.trunkOff
  all_goals exact hs.same (.of_ports rfl rfl rfl rfl rfl rfl)

/-! ### Every step -/

/-- The laws that the accounts rest on (R67, R105, R160). -/
def State.BasisLaws (s : State) : Prop := s.ReceptionLaw ∧ s.WindowLaw ∧ s.ParameterLaw

theorem State.BasisLaws.keptByMoves : KeptByMoves State.BasisLaws := by
  refine keptByMoves_of_passing (fun s ⟨hreception, _, _⟩ => hreception) ?passing ?parameter ?reset
  case passing =>
    intro s t h ⟨hreception, hwindow, hparams⟩
    exact ⟨h.reception hreception, h.window hparams hwindow, hparams.of_eq h.params⟩
  case parameter =>
    intro s n lo hi v hrange hvalue ⟨hreception, hwindow, hparams⟩
    exact ⟨hreception, hwindow, hparams.write hrange hvalue⟩
  case reset =>
    intro s
    obtain ⟨hparams, -, -, hwindow, -, hreception⟩ : s.deviceReset.LinkLaws := State.linkLaws_reset
    exact ⟨hreception, hwindow, hparams⟩

theorem State.AccountLaws.keptByMoves : KeptByMoves State.AccountLaws := by
  have line := State.BasisLaws.keptByMoves
  have assemble {s t : State} (hs : s.AccountLaws) (hline : s.BasisLaws → t.BasisLaws)
      (hbooks : s.Books → s.BasisLaws → t.Books) : t.AccountLaws := by
    obtain ⟨books, laws⟩ := State.accountLaws_iff.mp hs
    exact State.accountLaws_iff.mpr ⟨hbooks books laws, hline laws⟩
  have same {s t : State} (h : SameBooks s t) (hline : s.BasisLaws → t.BasisLaws) (hs : s.AccountLaws) : t.AccountLaws :=
    assemble hs hline fun books _ => books.same h
  constructor
  case queue => exact fun s l => same (.of_ports rfl rfl rfl rfl rfl rfl) (line.queue s l)
  case transaction => exact fun p s t h => same h.same (line.transaction p s t h)
  case command => exact fun p s managed t h hs => assemble hs (line.command p s managed t h) fun books _ => h.books books
  case appendByte =>
    exact fun p s r b => same (sameBooks_modPort (PortState.appendByte_same _ r b)) (line.appendByte p s r b)
  case trunk =>
    exact fun op s h hs => assemble hs (line.trunk op s h) fun books ⟨hreception, hwindow, _⟩ =>
      h.books books hreception hwindow
  case deviceReset =>
    intro s hs
    obtain ⟨books, -⟩ := State.accountLaws_iff.mp State.accountLaws_reset
    exact assemble hs (line.deviceReset s) fun _ _ => books.same s.deviceReset_same
  case resetRelease => exact fun s => same (.of_ports rfl rfl rfl rfl rfl rfl) (line.resetRelease s)

/-- Settles O57: each command and event moves what the ports pay for and the cells together. -/
theorem stepKeepsAccountLaws : Obligations.StepKeepsAccountLaws := fun _ _ hs h =>
  State.AccountLaws.keptByMoves.of_step hs h

end

end Sys2Proof.Machine
end

section
/-! SUPPORT. What a port leaves of the frame store by dropping all its references (R14, R174). -/

namespace Sys2Proof.Machine

section
variable {p q : Port} {s : State}

/-! ### Frames that pass on and frames that end -/

/-- Whether the payment of a frame of the store passes from p to q with p's reference (R14). -/
def State.inherits (s : State) (p q : Port) (x : Nat × Frame) : Bool :=
  s.holdsRecord p x.1 && x.2.payer == some p && (s.otherHolders p x.1).head? == some q

/-- Whether a frame of the store ends with p's reference (R14). -/
def State.losesLast (s : State) (p : Port) (x : Nat × Frame) : Bool :=
  s.holdsRecord p x.1 && (s.otherHolders p x.1).isEmpty

/-- The frames of a list of the store that meet a condition. -/
def framesIf (c : Nat × Frame → Bool) (l : List (Nat × Frame)) : List Frame := (l.filter c).map (·.2)

theorem lotsOf_framesIf_cons (c : Nat × Frame → Bool) (x : Nat × Frame) (l : List (Nat × Frame)) :
    lotsOf (framesIf c (x :: l)) = (if c x = true then lotsOf [x.2] else 0) + lotsOf (framesIf c l) := by
  unfold framesIf
  rw [List.filter_cons]
  split
  · rw [List.map_cons, ← List.singleton_append, lotsOf_append]
  · rw [zero_add]

theorem storedFor_eq (l : List (Nat × Frame)) (q : Port) : storedFor l q = framesIf (·.2.payer == some q) l := rfl

/-- The payer of a frame of the store holds a record of it (R14). -/
theorem State.ReferenceLaw.payer_holds (h : s.ReferenceLaw) {x : Nat × Frame} (hx : x ∈ s.frames) :
    ∃ y, x.2.payer = some y ∧ s.holdsRecord y x.1 = true := by
  obtain ⟨-, hcounted, -, -⟩ := h
  obtain ⟨y, hpayer, hone, -⟩ := hcounted x hx
  obtain ⟨r, hr, hn⟩ := State.recordsOf_ne_zero.mp (hone ▸ Nat.one_ne_zero : s.recordsOf y x.1 ≠ 0)
  exact ⟨y, hpayer, List.any_eq_true.mpr ⟨r, hr, by simpa using hn⟩⟩

theorem State.mem_otherHolders_of_holdsRecord {n : Nat} (hq : q ≠ p) (h : s.holdsRecord q n = true) :
    q ∈ s.otherHolders p n := by
  obtain ⟨r, hr, hn⟩ := List.any_eq_true.mp h
  exact State.mem_otherHolders.mpr ⟨hq, State.recordsOf_ne_zero.mpr ⟨r, hr, by simpa using hn⟩⟩

theorem State.not_mem_otherHolders_self {n : Nat} : p ∉ s.otherHolders p n := fun h =>
  (State.mem_otherHolders.mp h).1 rfl

/-- What p leaves to another port of one frame (R14). -/
theorem State.lots_withoutHolder_one {x : Nat × Frame} {y : Port} (hpayer : x.2.payer = some y)
    (hholds : s.holdsRecord y x.1 = true) (hq : q ≠ p) :
    lotsOf (storedFor (s.withoutHolder p x).toList q) =
      (if x.2.payer == some q then lotsOf [x.2] else 0) + if s.inherits p q x = true then lotsOf [x.2] else 0 := by
  have hone (z : Nat × Frame) : lotsOf (storedFor [z] q) = if z.2.payer == some q then lotsOf [z.2] else 0 := by
    rw [storedFor_eq, lotsOf_framesIf_cons]
    exact add_zero _
  unfold State.withoutHolder State.inherits
  by_cases hp : s.holdsRecord p x.1 = true
  · rw [if_pos hp, hp, hpayer]
    cases hothers : s.otherHolders p x.1 with
    | nil =>
      have hy : y = p := by
        by_contra hy
        have hmem := State.mem_otherHolders_of_holdsRecord hy hholds
        rw [hothers] at hmem
        exact List.not_mem_nil hmem
      simp [hy, hq.symm, storedFor]
    | cons heir rest =>
      rw [Option.toList_some, hone]
      have hlot (r : Option Nat) (z : Option Port) : lotsOf [{ x.2 with refs := r, payer := z }] = lotsOf [x.2] := rfl
      by_cases hy : y = p
      · simp [hy, hq.symm, hlot]
      · simp [hy, hlot]
  · rw [if_neg hp, Option.toList_some, hone]
    simp [hp]

theorem State.lots_withoutHolder {l : List (Nat × Frame)}
    (h : ∀ x ∈ l, ∃ y, x.2.payer = some y ∧ s.holdsRecord y x.1 = true) (hq : q ≠ p) :
    lotsOf (storedFor (l.filterMap (s.withoutHolder p)) q) =
      lotsOf (storedFor l q) + lotsOf (framesIf (s.inherits p q) l) := by
  induction l with
  | nil => rfl
  | cons x l ih =>
    obtain ⟨y, hpayer, hholds⟩ := h x List.mem_cons_self
    have hsplit : (x :: l).filterMap (s.withoutHolder p) =
        (s.withoutHolder p x).toList ++ l.filterMap (s.withoutHolder p) := by
      rw [List.filterMap_cons]
      cases s.withoutHolder p x <;> rfl
    rw [hsplit, storedFor_append, lotsOf_append, ih fun z hz => h z (List.mem_cons_of_mem _ hz),
      State.lots_withoutHolder_one hpayer hholds hq, storedFor_eq, storedFor_eq, lotsOf_framesIf_cons, lotsOf_framesIf_cons]
    ac_rfl

/-- What p paid for passes on or ends (R14). -/
theorem State.lots_paid_split {l : List (Nat × Frame)}
    (h : ∀ x ∈ l, ∃ y, x.2.payer = some y ∧ s.holdsRecord y x.1 = true) :
    lotsOf (storedFor l p) =
      lotsOf (framesIf (s.losesLast p) l) + overPorts fun q => lotsOf (framesIf (s.inherits p q) l) := by
  induction l with
  | nil => rfl
  | cons x l ih =>
    obtain ⟨y, hpayer, hholds⟩ := h x List.mem_cons_self
    have hone : (if x.2.payer == some p then lotsOf [x.2] else 0) =
        (if s.losesLast p x = true then lotsOf [x.2] else 0) +
          overPorts fun q => if s.inherits p q x = true then lotsOf [x.2] else 0 := by
      unfold State.losesLast State.inherits
      rw [hpayer]
      by_cases hy : y = p
      · subst hy
        rw [hholds]
        cases hothers : s.otherHolders y x.1 with
        | nil => simp
        | cons heir rest =>
          have hat := overPorts_lotsAt (some heir) (lotsOf [x.2])
          unfold lotsAt at hat
          simpa using hat.symm
      · have hmem := State.mem_otherHolders_of_holdsRecord hy hholds
        have hnot : (s.otherHolders p x.1).isEmpty = false := by
          rw [List.isEmpty_eq_false_iff]
          exact List.ne_nil_of_mem hmem
        simp [hy, hnot]
    simp only [storedFor_eq] at ih ⊢
    simp only [lotsOf_framesIf_cons, overPorts_add]
    rw [hone, ih fun z hz => h z (List.mem_cons_of_mem _ hz)]
    ac_rfl

theorem State.inherits_self (x : Nat × Frame) : s.inherits p p x = false := by
  unfold State.inherits
  have hnot : (s.otherHolders p x.1).head? ≠ some p := fun h => State.not_mem_otherHolders_self (List.mem_of_mem_head? h)
  simp [hnot]

end

end Sys2Proof.Machine
end

section
/-! SUPPORT. What the reset of a port leaves of holdings, frame store and free cells (R14, R24, R148, R174). -/

namespace Sys2Proof.Machine

section
variable {p q : Port} {s t : State}

/-- The state in which the frames and the lists of p are reset (R174). -/
def State.emptiedPort (s : State) (p : Port) : State := ((s.resetFrames p).orphan p).resetLists p

theorem State.otherHolders_clearedPort (s : State) (p : Port) : (s.clearedPort p).otherHolders p = s.otherHolders p := by
  funext n
  unfold State.otherHolders
  refine List.filter_congr fun q _ => ?_
  by_cases hq : q = p
  · simp [hq]
  · rw [State.port_clearedPort, if_neg hq]

/-- A port reset drops the references of all records of its port (R14, R148). -/
theorem State.forget_clearedPort (s : State) (p : Port) :
    (s.clearedPort p).forget p ((s.port p).rx.records.map (·.frame)) = s.withoutHolder p := by
  funext x
  unfold State.forget State.withoutHolder
  rw [State.otherHolders_clearedPort]
  have hmem : x.1 ∈ (s.port p).rx.records.map (·.frame) ↔ s.holdsRecord p x.1 = true := by
    simp [State.holdsRecord]
  by_cases h : s.holdsRecord p x.1 = true
  · rw [if_pos (hmem.mpr h), if_pos h]
    cases s.otherHolders p x.1 <;> rfl
  · rw [if_neg fun hx => h (hmem.mp hx), if_neg h]

theorem State.emptiedPort_moved (s : State) (p : Port) : PaymentMoved (s.clearedPort p) (s.emptiedPort p) := by
  unfold State.emptiedPort
  rw [State.resetLists_eq]
  generalize s.clearedPort p = u
  generalize (s.port p).rx.records.map (·.frame) = l
  induction l generalizing u with
  | nil => exact .refl u
  | cons n l ih => exact (u.dropReference_moved p n).trans (ih _)

theorem State.Books.emptiedPort_frames (h : s.Books) :
    (s.emptiedPort p).frames = s.frames.filterMap (s.withoutHolder p) := by
  obtain ⟨-, -, -, hframes⟩ := h.references.clearedPort.drops (p := p) h.accounts.clearedPort
  rw [← State.forget_clearedPort]
  unfold State.emptiedPort
  rw [State.resetLists_eq]
  exact hframes

theorem State.emptiedPort_unchanged (s : State) (p : Port) :
    (s.emptiedPort p).lineFrames = s.lineFrames ∧
      (∀ q, entryFrames (s.emptiedPort p).engine.window q = entryFrames s.engine.window q) ∧
      ∀ q, ((s.emptiedPort p).port q).unsentFrames = if q = p then [] else (s.port q).unsentFrames := by
  have hmoved := s.emptiedPort_moved p
  refine ⟨funext (State.lineFrames_congr ?_), fun q => ?_, fun q => ?_⟩
  · rw [hmoved.eq]
    rfl
  · rw [hmoved.eq]
    exact s.entryFrames_clearedPort p q
  · rw [hmoved.port q, State.port_clearedPort]
    split <;> rfl

theorem State.lots_split (s : State) (q : Port) :
    s.lots q = lotsOf (s.port q).unsentFrames + (lotsOf (entryFrames s.engine.window q) + lotsOf (s.lineFrames q)) +
      lotsOf (storedFor s.frames q) := by
  simp [State.lots, State.paidFrames, storedFor, add_assoc]

/-- A reset port pays for no frame of the store. -/
theorem State.Books.emptiedPort_stored (h : s.Books) : storedFor (s.emptiedPort p).frames p = [] := by
  obtain ⟨-, hcounted, -, -⟩ := (h.resetLists (p := p)).references
  unfold storedFor
  rw [List.map_eq_nil_iff, List.filter_eq_nil_iff]
  intro x hx hpaid
  obtain ⟨y, hpayer, hone, -⟩ := hcounted x hx
  obtain rfl : y = p := Option.some.inj (hpayer.symm.trans (by simpa using hpaid))
  obtain ⟨r, hr, -⟩ := State.recordsOf_ne_zero.mp (hone ▸ Nat.one_ne_zero)
  change r ∈ ((s.emptiedPort y).port y).rx.records at hr
  rw [(s.emptiedPort_moved y).port y, State.port_clearedPort, if_pos rfl] at hr
  exact List.not_mem_nil hr

theorem State.Books.emptiedPort_lots_self (h : s.Books) :
    (s.emptiedPort p).lots p = lotsOf (entryFrames s.engine.window p) + lotsOf (s.lineFrames p) := by
  obtain ⟨hline, hentries, hunsent⟩ := s.emptiedPort_unchanged p
  rw [State.lots_split, h.emptiedPort_stored, hline, hentries, hunsent, if_pos rfl, lotsOf_nil, zero_add, add_zero]

theorem State.Books.emptiedPort_lots_other (h : s.Books) (hq : q ≠ p) :
    (s.emptiedPort p).lots q = s.lots q + lotsOf (framesIf (s.inherits p q) s.frames) := by
  obtain ⟨hline, hentries, hunsent⟩ := s.emptiedPort_unchanged p
  rw [State.lots_split, State.lots_split, hline, hentries, hunsent, if_neg hq, h.emptiedPort_frames,
    State.lots_withoutHolder (fun x hx => h.references.payer_holds hx) hq, add_assoc (_ + _)]

/-- The frames that end with the reset of p (R14, R24, R174). -/
def State.freedBy (s : State) (p : Port) : List Frame := (s.port p).unsentFrames ++ framesIf (s.losesLast p) s.frames

theorem State.Books.emptiedPort_lots_all (h : s.Books) :
    overPorts s.lots = overPorts (s.emptiedPort p).lots + lotsOf (s.freedBy p) := by
  have hall (q : Port) : s.lots q + lotsOf (framesIf (s.inherits p q) s.frames) =
      (s.emptiedPort p).lots q + lotsAt (some p) (lotsOf (s.port p).unsentFrames + lotsOf (storedFor s.frames p)) q := by
    rw [lotsAt_some]
    by_cases hq : q = p
    · subst hq
      have hnone : framesIf (s.inherits q q) s.frames = [] := by
        unfold framesIf
        rw [List.filter_eq_nil_iff.mpr fun x _ => by simp [State.inherits_self], List.map_nil]
      rw [if_pos rfl, h.emptiedPort_lots_self, State.lots_split, hnone, lotsOf_nil, add_zero]
      ac_rfl
    · rw [if_neg hq, h.emptiedPort_lots_other hq, add_zero]
  have hsum := congrArg overPorts (funext hall)
  have hsplit := State.lots_paid_split (p := p) (s := s) (l := s.frames) fun x hx => h.references.payer_holds hx
  rw [overPorts_add, overPorts_add, overPorts_lotsAt, if_neg (Option.some_ne_none p), hsplit] at hsum
  unfold State.freedBy
  rw [lotsOf_append]
  refine add_right_cancel (b := overPorts fun q => lotsOf (framesIf (s.inherits p q) s.frames)) (hsum.trans ?_)
  ac_rfl

/-- R24, R14: the cells of p in the window and on the line are still p's, the heirs pay for what passed on, and the cells of
the frames that ended are free. -/
theorem State.Books.emptiedPort_accounts (h : s.Books) :
    ((s.emptiedPort p).port p).holdings = entryCells s.engine.window p + cellsOf (s.lineFrames p) ∧
      (∀ q, q ≠ p →
        ((s.emptiedPort p).port q).holdings = (s.port q).holdings + cellsOf (framesIf (s.inherits p q) s.frames)) ∧
      (s.emptiedPort p).pool.free = s.pool.free + cellsOf (s.freedBy p) ∧
      (s.emptiedPort p).pool.freeCells.Perm (s.pool.freeCells ++ cellList (s.freedBy p)) := by
  have hafter : (s.emptiedPort p).Accounts := (h.resetLists (p := p)).accounts
  have hall := h.emptiedPort_lots_all (p := p)
  have hinbound : (s.emptiedPort p).pool.inboundCells = s.pool.inboundCells := by
    rw [(s.emptiedPort_moved p).pool]
    rfl
  have hperm : (s.emptiedPort p).pool.freeCells.Perm (s.pool.freeCells ++ cellList (s.freedBy p)) := by
    have hcells := hafter.cells.trans h.accounts.cells.symm
    rw [hall, lotCells_add, lotCells_lotsOf, hinbound] at hcells
    refine Multiset.coe_eq_coe.mp (add_right_cancel
      (b := ↑s.pool.inboundCells + lotCells (overPorts (s.emptiedPort p).lots)) ?_)
    rw [← add_assoc, hcells, ← Multiset.coe_add]
    ac_rfl
  have hsized : (cellList (s.freedBy p)).length = cellsOf (s.freedBy p) := by
    have hcard := card_lotCells (m := lotsOf (s.freedBy p)) fun x hx => by
      have hx : x ∈ overPorts s.lots := hall ▸ Multiset.mem_add.mpr (.inr hx)
      obtain ⟨q, hx⟩ := exists_of_mem_overPorts hx
      exact h.accounts.sized q x hx
    rwa [lotCells_lotsOf, Multiset.coe_card, lotCount_lotsOf] at hcard
  refine ⟨?_, fun q hq => ?_, ?_, hperm⟩
  · rw [← hafter.held p, h.emptiedPort_lots_self, lotCount_add, lotCount_lotsOf, lotCount_lotsOf]
    rfl
  · rw [← hafter.held q, h.emptiedPort_lots_other hq, lotCount_add, h.accounts.held q, lotCount_lotsOf]
  · rw [← hafter.free, hperm.length_eq, List.length_append, h.accounts.free, hsized]

end

end Sys2Proof.Machine
end

section
/-! SUPPORT. PORT RESET (R174): the lease, the judged pool and the answer. -/

namespace Sys2Proof.Machine

section
variable {p q : Port} {s t : State}

/-- The port that the lease goes to with a reset of p (R154, R155). -/
def State.grantedBy (s : State) (p : Port) : Option Port :=
  if s.lease.holder = some p then s.lease.waiting.head? else none

/-- The lease after a reset of p (R155, R156). -/
def State.leaseAfter (s : State) (p : Port) : Lease :=
  if s.lease.holder = some p then
    match s.lease.waiting with
    | [] => { holder := none, timer := .stopped, waiting := [] }
    | q :: rest => { holder := some q, timer := .running s.params.tLease, waiting := rest }
  else { s.lease with waiting := s.lease.waiting.filter (· ≠ p) }

/-- The address tables after a reset of p (R154). -/
def State.classifierAfter (s : State) (p : Port) : Classifier :=
  if s.lease.holder = some p then s.classifier.revert else s.classifier

theorem State.passLease_eq (s : State) :
    s.passLease =
        { s with
          ports := s.passLease.ports
          lease :=
            match s.lease.waiting with
            | [] => { holder := none, timer := .stopped, waiting := [] }
            | q :: rest => { holder := some q, timer := .running s.params.tLease, waiting := rest } } ∧
      ∀ q, s.passLease.port q =
        { s.port q with
          events := (s.port q).events.raised (Event.leaseGranted.bitIf (s.lease.waiting.head? == some q)) } := by
  unfold State.passLease
  cases s.lease.waiting with
  | nil => exact ⟨rfl, fun q => rfl⟩
  | cons y rest =>
    refine ⟨rfl, fun q => ?_⟩
    refine (State.port_modPort _ y q _).trans ?_
    by_cases hq : q = y
    · subst hq
      rw [if_pos rfl, PortState.raise_eq_raised]
      simp [State.port]
    · have hnot : ((some y : Option Port) == some q) = false := by simpa using Ne.symm hq
      rw [if_neg hq, List.head?_cons, hnot, Event.bitIf_false, EventUnit.raised_zero]
      rfl

/-- The holding of a reset port ends, and a waiting one waits no longer (R155, R156). -/
theorem State.resetLease_eq (s : State) (p : Port) :
    s.resetLease p =
        { s with ports := (s.resetLease p).ports, lease := s.leaseAfter p, classifier := s.classifierAfter p } ∧
      ∀ q, (s.resetLease p).port q =
        { s.port q with
          events := (s.port q).events.raised (Event.leaseGranted.bitIf (s.grantedBy p == some q)) } := by
  unfold State.resetLease State.leaseAfter State.classifierAfter State.grantedBy
  by_cases h : s.lease.holder = some p
  · obtain ⟨heq, hport⟩ := State.passLease_eq { s with classifier := s.classifier.revert }
    simp only [if_pos h, State.endHolding_of_holder h]
    exact ⟨heq, hport⟩
  · rw [if_neg h, if_neg h, if_neg h, if_neg h]
    exact ⟨rfl, fun q => rfl⟩

/-! ### The reset before its pool is judged -/

/-- The state of a port reset before the pool is judged (R20, R174). -/
def State.unsettledReset (s : State) (p : Port) : State := (s.emptiedPort p).resetLease p

theorem State.emptiedPort_eq (s : State) (p : Port) :
    s.emptiedPort p =
        { s with
          pool :=
            { s.pool with free := (s.emptiedPort p).pool.free, freeCells := (s.emptiedPort p).pool.freeCells }
          ports := (s.emptiedPort p).ports, frames := (s.emptiedPort p).frames
          engine :=
            { s.engine with
              window := s.engine.window.map fun e => if e.owner = p then { e with orphan := true } else e } } ∧
      ∀ q, (s.emptiedPort p).port q =
        if q = p then
          { s.port q with
            holdings := ((s.emptiedPort p).port q).holdings, slot := none, queue := [], deferred := false
            rx := PortState.reset.rx, cpl := PortState.reset.cpl }
        else { s.port q with holdings := ((s.emptiedPort p).port q).holdings } := by
  obtain ⟨hport, hpool, heq⟩ := s.emptiedPort_moved p
  refine ⟨heq.trans ?_, fun q => (hport q).trans ?_⟩
  · rw [hpool]
    rfl
  · rw [State.port_clearedPort]
    split <;> rfl

theorem State.unsettledReset_eq (s : State) (p : Port) :
    s.unsettledReset p =
        { s with
          pool :=
            { s.pool with free := (s.emptiedPort p).pool.free, freeCells := (s.emptiedPort p).pool.freeCells }
          ports := (s.unsettledReset p).ports, frames := (s.emptiedPort p).frames
          engine :=
            { s.engine with
              window := s.engine.window.map fun e => if e.owner = p then { e with orphan := true } else e }
          lease := s.leaseAfter p, classifier := s.classifierAfter p } ∧
      ∀ q, (s.unsettledReset p).port q =
        { (s.emptiedPort p).port q with
          events := ((s.emptiedPort p).port q).events.raised (Event.leaseGranted.bitIf (s.grantedBy p == some q)) } := by
  obtain ⟨heq, -⟩ := s.emptiedPort_eq p
  obtain ⟨hleaseEq, hport⟩ := (s.emptiedPort p).resetLease_eq p
  have hlease : (s.emptiedPort p).lease = s.lease := by rw [heq]
  have hparams : (s.emptiedPort p).params = s.params := by rw [heq]
  have hclassifier : (s.emptiedPort p).classifier = s.classifier := by rw [heq]
  have hgranted : (s.emptiedPort p).grantedBy p = s.grantedBy p := by unfold State.grantedBy; rw [hlease]
  have hafter : (s.emptiedPort p).leaseAfter p = s.leaseAfter p := by unfold State.leaseAfter; rw [hlease, hparams]
  have htables : (s.emptiedPort p).classifierAfter p = s.classifierAfter p := by
    unfold State.classifierAfter
    rw [hlease, hclassifier]
  refine ⟨hleaseEq.trans ?_, fun q => (hport q).trans (by rw [hgranted])⟩
  rw [hafter, htables]
  unfold State.unsettledReset
  generalize ((s.emptiedPort p).resetLease p).ports = ports
  rw [heq]

/-! ### The reset with its pool judged and its command answered -/

/-- The state that PORT RESET of p leaves (R174). -/
def State.resetAnswered (s : State) (p : Port) : State := s.answeredBy p 0 (s.portReset p)

theorem State.port_resetAnswered (s : State) (p q : Port) :
    (s.resetAnswered p).port q =
      if q = p then
        ((s.answered p 0 .ok [] s).modPort p fun ps =>
          { ps with
            holdings := ((s.emptiedPort p).port p).holdings, slot := none, queue := [], deferred := false
            rx := PortState.reset.rx, cpl := PortState.reset.cpl, events := EventUnit.cleared, prevResult := .ok }).port p
      else
        { s.port q with
          holdings := ((s.emptiedPort p).port q).holdings
          events :=
            (s.port q).events.raised
              (Event.leaseGranted.bitIf (s.grantedBy p == some q) |||
                Event.poolLow.bitIf (s.unsettledReset p).fallsLow) } := by
  obtain ⟨-, hunsettled⟩ := s.unsettledReset_eq p
  obtain ⟨-, hemptied⟩ := s.emptiedPort_eq p
  have hjudged := (s.unsettledReset p).port_settlePool_eq q
  rw [hunsettled, hemptied] at hjudged
  unfold State.resetAnswered State.answeredBy State.answered State.portReset
  dsimp only
  change ((((s.unsettledReset p).settlePool).modPort p _).modPort p _).port q = _
  rw [State.port_modPort, State.port_modPort]
  by_cases hq : q = p
  · subst hq
    rw [if_pos rfl, if_pos rfl, if_pos rfl, hjudged, if_pos rfl, State.port_modPort_same, State.port_modPort_same]
  · rw [if_neg hq, if_neg hq, if_neg hq, hjudged, if_neg hq, EventUnit.raised_raised]

theorem State.floor_answered (s t : State) (p q : Port) (n : Nat) (r : Result) (reply : List Byte) :
    ((s.answered p n r reply t).port q).floor = (t.port q).floor := by
  unfold State.answered
  rw [State.port_modPort]
  split <;> rfl

theorem State.resetAnswered_eq (s : State) (p : Port) :
    s.resetAnswered p =
        { s.unsettledReset p with
          pool := { (s.unsettledReset p).pool with level := (s.unsettledReset p).levelNow }
          ports := (s.resetAnswered p).ports
          engine := (s.unsettledReset p).engine.letGo
            ((s.unsettledReset p).params.resume ≤ (s.unsettledReset p).sharedFree) } ∧
      (s.resetAnswered p).sharedFree = (s.unsettledReset p).sharedFree := by
  have heq : s.resetAnswered p =
      { (s.unsettledReset p).settlePool with ports := (s.resetAnswered p).ports } := rfl
  obtain ⟨-, hunsettled⟩ := s.unsettledReset_eq p
  obtain ⟨-, hemptied⟩ := s.emptiedPort_eq p
  refine ⟨heq.trans ?_, State.sharedFree_congr ?_ fun q => ?_⟩
  · rw [State.settlePool_eq, State.settlePool_pool, State.settlePool_engine_eq]
  · rw [heq, State.settlePool_pool]
  · have hfloor : ((s.emptiedPort p).port q).floor = (s.port q).floor := by
      rw [hemptied]
      split <;> rfl
    unfold PortState.reservation
    rw [State.port_resetAnswered, hunsettled, hfloor]
    split
    · next hq =>
      subst hq
      rw [State.port_modPort_same, State.floor_answered]
    · rfl

/-- The fields that a port reset changes, and that it changes no other (R174). -/
theorem State.resetAnswered_fields (s : State) (p : Port) :
    (s.resetAnswered p).pool =
        { s.pool with
          free := (s.emptiedPort p).pool.free, freeCells := (s.emptiedPort p).pool.freeCells
          level := (s.resetAnswered p).levelNow } ∧
      (s.resetAnswered p).frames = (s.emptiedPort p).frames ∧
      (s.resetAnswered p).engine =
        Engine.letGo
          { s.engine with
            window := s.engine.window.map fun e => if e.owner = p then { e with orphan := true } else e }
          (s.params.resume ≤ (s.resetAnswered p).sharedFree) ∧
      (s.resetAnswered p).lease = s.leaseAfter p ∧ (s.resetAnswered p).classifier = s.classifierAfter p ∧
      s.resetAnswered p =
        { s with
          pool := (s.resetAnswered p).pool, ports := (s.resetAnswered p).ports, frames := (s.resetAnswered p).frames
          engine := (s.resetAnswered p).engine, classifier := (s.resetAnswered p).classifier
          lease := (s.resetAnswered p).lease } := by
  obtain ⟨heq, hshared⟩ := s.resetAnswered_eq p
  obtain ⟨hunsettled, -⟩ := s.unsettledReset_eq p
  have hparams : (s.resetAnswered p).params = s.params := by rw [heq, hunsettled]
  have hlevel : (s.unsettledReset p).levelNow = (s.resetAnswered p).levelNow := by
    unfold State.levelNow
    rw [hshared, hparams, hunsettled]
  rw [hlevel, ← hshared] at heq
  generalize s.resetAnswered p = t at *
  generalize s.unsettledReset p = u at *
  generalize t.levelNow = level at *
  generalize t.sharedFree = shared at *
  refine ⟨?_, ?_, ?_, ?_, ?_, ?_⟩
  all_goals rw [heq, hunsettled]

/-- Settles O11: the drops of the references one by one, then the lease, then the pool. -/
theorem portReset : Obligations.PortReset := by
  intro s p hready granted lost inherited freed
  have hrun : exec (.portReset p) s = .next (s.resetAnswered p) := exec_ready (c := .portReset p) rfl rfl hready
  refine ⟨_, hrun, ?_⟩
  have hport := s.port_resetAnswered p
  obtain ⟨hpool, hframes, hengine, hlease, htables, hrest⟩ := s.resetAnswered_fields p
  have hlow : (s.unsettledReset p).fallsLow = fellLow s (s.resetAnswered p) := by
    obtain ⟨-, hshared⟩ := s.resetAnswered_eq p
    obtain ⟨hunsettled, -⟩ := s.unsettledReset_eq p
    unfold State.fallsLow fellLow
    rw [hshared, hrest, hunsettled]
  have hholdings (q : Port) : ((s.resetAnswered p).port q).holdings = ((s.emptiedPort p).port q).holdings := by
    rw [hport]
    split
    · next hq =>
      subst hq
      rw [State.port_modPort_same]
    · rfl
  generalize s.resetAnswered p = t at *
  refine ⟨?own, fun q hq => ?others, fun hlaws => ?accounts, ?pool, hengine, hlease, htables, hrest⟩
  case own =>
    rw [hholdings, hport p, if_pos rfl]
    rfl
  case others =>
    rw [hport q, if_neg hq, hlow]
    rfl
  case accounts =>
    obtain ⟨books, -⟩ := State.accountLaws_iff.mp hlaws
    obtain ⟨hown, hheirs, hfree, hcells⟩ := books.emptiedPort_accounts (p := p)
    refine ⟨(hholdings p).trans hown, fun q hq => (hholdings q).trans (hheirs q hq),
      hframes.trans books.emptiedPort_frames, ?_, ?_⟩
    · rw [hpool]
      exact hfree
    · rw [hpool]
      exact hcells
  case pool => rw [hpool]

end

end Sys2Proof.Machine
end
